-- ==== Sys2Proof/Word.lean ====
section
/-! DEFINITION. The words that cross the part's links (R211): a field of an encoded frame is a bit vector of
its width. Quantities the part computes with are whole numbers (Nat, Int), as the manual's conventions say. -/

namespace Sys2Proof

/-- One byte of a frame, an image or a payload. -/
abbrev Byte := BitVec 8

/-- A two-byte field: speed, id, expiry, tolerance, index (R211). -/
abbrev Half := BitVec 16

/-- A three-byte field: a chainage, or a cause mask (R211, R214). -/
abbrev Chain := BitVec 24

/-- A four-byte field: the serial of the identity block, a time in ms (R211). -/
abbrev Quad := BitVec 32

end Sys2Proof
end

