-- ==== Sys2Proof/Syntax.lean ====
section
/-! DEFINITION. The commands: one constructor of `Instr` for each row of spec/opcode_table.json, with its operands.
Events of the car lines carry typed operands. Requests (R214) and radio frames (R156, R213) carry their
argument and body fields at the widths of the layouts, uninterpreted: a value outside its coding reaches
the owner, which refuses it (R214, R156). -/

namespace Sys2Proof

/-- UP is rising chainage (00, Directions). -/
inductive Direction where
  | up | down
  deriving DecidableEq, Repr

/-- The two pinion band brakes (R99). -/
inductive Band where
  | pb1 | pb2
  deriving DecidableEq, Repr

/-- The two switches of a band brake (R105). -/
inductive BandSwitch where
  | released | applied
  deriving DecidableEq, Repr

/-- The four door leaves (R124). -/
inductive Leaf where
  | a1 | a2 | b1 | b2
  deriving DecidableEq, Repr

/-- The two sides of the car (R126). -/
inductive Side where
  | a | b
  deriving DecidableEq, Repr

/-- The three nonvolatile tables (R171). -/
inductive Table where
  | profile | stops | car
  deriving DecidableEq, Repr

/-- Why a radio frame is discarded at once (R153, R154). -/
inductive DiscardReason where
  | tooLong | framing | badCrc | wrongLength
  deriving DecidableEq, Repr

/-- The filtered levels of one leaf's inputs (R125). -/
structure LeafLevels where
  openEnd : Bool
  closed  : Bool
  lock    : Bool
  button  : Bool
  deriving DecidableEq, Repr

/-- The released and applied switch of one band brake (R105). -/
structure BandLevels where
  released : Bool
  applied  : Bool
  deriving DecidableEq, Repr

/-- The levels the 20 ms filters hold once they have settled (R99, R101, R124). -/
structure InputLevels where
  a1 : LeafLevels
  a2 : LeafLevels
  b1 : LeafLevels
  b2 : LeafLevels
  pb1 : BandLevels
  pb2 : BandLevels
  ebReady : Bool
  deriving DecidableEq, Repr

/-- How far a nonvolatile operation had got when it was cut short (R172, R174, R175, R180, R187): the manual leaves
it open, so the event that cuts the operation short carries it (log 5). -/
structure Cut where
  /-- Profile commit: how many images, in buffer order, were in the store. -/
  written : Nat
  /-- Stop commit: bit i set when image i was in the store. Erase and unlock: bit i set when record i was removed. -/
  mask : Nat
  /-- Close of the profile: whether the line end was in the last record. -/
  lineEnd : Bool
  /-- Unlock: whether every record had been removed and the depot lock cleared (R187, steps 2 and 3). -/
  lockCleared : Bool
  deriving DecidableEq, Repr, Inhabited

/-- The commands, in the order of spec/opcode_table.json. `key` is the keyswitch line as read when the request is
taken (R173, R189, R196; log 4). -/
inductive Instr where
  -- reset and start
  | fullReset (cut : Cut)
  | startSequence
  | inputFilterSettled (levels : InputLevels)
  | verifyWriteConfirmed (table : Table) (confirmed : Bool)
  -- position
  | wheelPulse (dir : Direction)
  | pinionPulse
  | markerPulse
  | standstillDeclared
  | positionUpdate
  -- brakes
  | ebReadyChange (present : Bool)
  | bandSwitchChange (band : Band) (switch : BandSwitch) (made : Bool)
  | releaseTimerExpiry (band : Band)
  | applyTimerExpiry (band : Band)
  | wbPressureChange (percent : Nat)
  | followTimerExpiry
  | step1Timeout
  | step5WatchEnd
  -- doors
  | buttonEdge (leaf : Leaf) (pressed : Bool)
  | openEndSwitch (leaf : Leaf) (made : Bool)
  | closedSwitchChange (leaf : Leaf) (made : Bool)
  | lockSwitchChange (leaf : Leaf) (made : Bool)
  | openStrokeTimeout (leaf : Leaf)
  | closeStrokeTimeout (leaf : Leaf)
  | lockTimeout (leaf : Leaf)
  | dwellEnd (leaf : Leaf)
  | warnLeadEnd (leaf : Leaf)
  | doorSample (leaf : Leaf) (current stroke : Nat)
  | stallTimeout (leaf : Leaf)
  -- authority and link time
  | recordExpiry (slot : Nat)
  | silenceReaches4s
  | silenceReachesLostLimit
  | reportTimerExpiry
  | burstTimerExpiry
  | broadcastReportDelay
  | restartTimerExpiry
  -- radio frames
  | carFrameSent
  | frameDiscarded (reason : DiscardReason)
  | frameGapTimeout (next : Byte)
  | foreignFrame (addr : Byte)
  | carKindFrame (addr kind : Byte)
  | grant (addr seq : Byte) (id : Half) (start stop : Chain) (dir : Byte) (cap expiry : Half)
  | shorten (addr seq : Byte) (id : Half) (newEnd : Chain)
  | revoke (addr seq : Byte) (id : Half)
  | restrictFrame (addr seq : Byte) (id : Half) (start stop : Chain) (limit : Half) (applies : Byte)
  | liftFrame (addr seq : Byte) (id : Half)
  | flushOverflow (addr seq : Byte)
  | stopClose (addr seq : Byte) (number : Byte)
  | stopOpen (addr seq : Byte) (number : Byte)
  | probe (addr seq : Byte)
  -- supply, store, settle
  | supplyLockout (cut : Cut)
  | supplyNormal
  | nvWriteConfirmed
  | nvTimeLimit (cut : Cut)
  | settleTimerExpiry
  -- the Command Port's link
  | readTransaction (clocks : Nat) (ends : Bool)
  | badFrame
  | unknownRequest (code : Byte)
  | responseReady
  -- status requests
  | readPosition
  | readSupervision
  | readTrip
  | readBrakes
  | readDoors
  | readObstruction (leaf : Byte)
  | readLink
  | readTables (key : Bool)
  | readMode
  | readCauses
  | clearCauses (mask : Chain)
  | setCauseMask (mask : Chain)
  -- lookups
  | lookupAt (chainage : Chain)
  | readSegment (index : Half)
  | findStop (number : Byte)
  | readRestriction (slot : Byte)
  | readAuthority (slot : Byte)
  | readCarRecord
  | readSettings
  -- requests on the line
  | setSetting (setting : Byte) (value : Half)
  | setPosition (cHigh : Chain)
  | selectDirection (dir : Byte)
  | restrict (id : Half) (start stop : Chain) (limit : Half) (applies : Byte)
  | lift (id : Half)
  | tripReset
  | driveRequest (on : Byte)
  | brakeTest (step : Byte)
  -- doors and radio
  | doorRelease (side mode : Byte)
  | doorWithdraw (side : Byte)
  | doorClose (side : Byte)
  | doorIsolate (leaf : Byte)
  | doorRestore (leaf : Byte)
  | radioHold (on : Byte)
  | radioRestart
  -- modes
  | enterService
  | enterDepot (key : Bool)
  | park
  | wake
  -- depot
  | eraseTable (key : Bool) (table : Byte)
  | openBatch (key : Bool) (table count : Byte)
  | putRecord (key : Bool) (image : List Byte)
  | commitBatch (key : Bool)
  | batchReset (key : Bool)
  | closeTable (key : Bool) (table : Byte) (endPresent : Byte) (lineEnd : Chain)
  | writeCarRecord (key : Bool) (present : Half) (image : List Byte)
  | programIdentity (key : Bool) (serial : Quad) (cls : Half)
  | lockTable (key : Bool) (table : Byte)
  | unlockTable (key : Bool) (table : Byte)
  deriving DecidableEq, Repr

end Sys2Proof
end

