-- ==== Sys2Proof/Machine/State.lean ====
section
/-! DEFINITION. The state of the part: one structure per block, as plain data. Every item of the state tables R1, R27, R50,
R56, R60, R75, R99, R124, R149, R171, R190 and R203 is a field; the rule that names it stands in its docstring. Timers hold
the milliseconds they still have to run, `none` when stopped. -/

namespace Sys2Proof.Machine

/-! ## Line data (R3, R9, R16) -/

/-- Kind of track (R3). -/
inductive SegKind where
  | adhesion | transition | rack
  deriving DecidableEq, Repr

/-- A segment record as stored (R3). CLOSE_TABLE writes `endC` into the last record, and no other record has one. It stays in the store when
the table leaves CLOSED, where it is shown as absent (R3, R8; log 58). -/
structure Segment where
  start     : Nat
  endC      : Option Nat
  gradient  : Int
  kind      : SegKind
  limitUp   : Nat
  limitDown : Nat
  shadow    : Nat
  deriving DecidableEq, Repr

/-- A segment with its index and extent [lo, hi); `hi` is absent where the extent is open (R3, R4, R210). -/
structure Placed where
  index : Nat
  lo    : Nat
  hi    : Option Nat
  seg   : Segment
  deriving DecidableEq, Repr

/-- Sides on which a platform lies (R9). -/
inductive Sides where
  | a | b | ab
  deriving DecidableEq, Repr

/-- A door window [lo, hi) (R10). -/
structure Window where
  lo : Nat
  hi : Nat
  deriving DecidableEq, Repr

/-- A stop record (R9). -/
structure StopRec where
  number    : Nat
  reference : Nat
  tolerance : Nat
  sides     : Sides
  marker    : Option Nat
  windows   : List Window
  deriving DecidableEq, Repr

/-- Which point of the stroke an obstruction record names (R16, R145). -/
inductive ReportPoint where
  | atPeak | atFall
  deriving DecidableEq, Repr

/-- Offset from the low end and width of a door leaf (R16). -/
structure LeafPlace where
  offset : Nat
  width  : Nat
  deriving DecidableEq, Repr

/-- The configuration fields of the car record, in the order of R16. -/
structure CarConfig where
  address       : Nat
  carLength     : Nat
  pinionOffset  : Nat
  readerOffset  : Nat
  leafA1        : LeafPlace
  leafA2        : LeafPlace
  leafB1        : LeafPlace
  leafB2        : LeafPlace
  rackPitch     : Nat
  wheelCirc     : Nat
  wheelPulses   : Nat
  eRack         : Nat
  eWheel        : Nat
  uFixRack      : Nat
  uFixMarker    : Nat
  uSet          : Nat
  uMax          : Nat
  wakeAllowance : Nat
  aSvcRack      : Nat
  aSvcAdh       : Nat
  aSvcDegr      : Nat
  buildUp       : Nat
  warnMargin    : Nat
  intervMargin  : Nat
  searchSpeed   : Nat
  lostLinkSpeed : Nat
  shuntSpeed    : Nat
  rollbackLimit : Nat
  linkGrace     : Nat
  threshold     : Nat
  hysteresis    : Nat
  reportPoint   : ReportPoint
  warnLead      : Nat
  openDwell     : Nat
  reopenAttempts : Nat
  deriving DecidableEq, Repr

/-- The identity block (R15). -/
structure Identity where
  serial : Nat
  cls    : Nat
  deriving DecidableEq, Repr

/-! ## Nonvolatile store (R171) -/

/-- Table states; the car record uses EMPTY, CLOSED and INCOMPLETE only (R171). -/
inductive TableState where
  | empty | loading | closed | incomplete | corrupt
  deriving DecidableEq, Repr

/-- What the store still holds while the write of a verification result is not confirmed (R193). -/
structure Unwritten where
  state   : TableState
  check   : Option Half
  /-- Set while the write is being made; clear while it waits for the supply. -/
  running : Bool
  deriving DecidableEq, Repr

/-- State, check word and depot lock of one table (R171). -/
structure TableInfo where
  state     : TableState
  check     : Option Half
  lock      : Bool
  unwritten : Option Unwritten
  deriving DecidableEq, Repr

/-- The nonvolatile store: the records (R3, R9, R16), the identity block with its lock (R15) and the table states. -/
structure Nv where
  segments : List Segment
  stops    : List StopRec
  config   : Option CarConfig
  identity : Option Identity
  idLock   : Bool
  profileT : TableInfo
  stopsT   : TableInfo
  carT     : TableInfo
  deriving DecidableEq, Repr

/-! ## Line Record Store, volatile part -/

/-- Directions a restriction binds (R50). -/
inductive Applies where
  | up | down | both
  deriving DecidableEq, Repr

/-- Party that placed a restriction (R50). -/
inductive Origin where
  | valley | crew
  deriving DecidableEq, Repr

/-- A restriction record (R50). -/
structure Restriction where
  id      : Nat
  start   : Nat
  stop    : Nat
  limit   : Nat
  applies : Applies
  origin  : Origin
  deriving DecidableEq, Repr

/-- The overflow record (R56). -/
structure Overflow where
  start : Nat
  stop  : Nat
  limit : Nat
  deriving DecidableEq, Repr

/-- The service settings (R21). -/
structure Settings where
  openDwell : Nat
  warnLead  : Nat
  linkGrace : Nat
  wheelCirc : Nat
  deriving DecidableEq, Repr

/-- The volatile part of the LRS (R1). -/
structure Lrs where
  settings     : Settings
  closure      : List Nat
  restrictions : List Restriction
  overflow     : Option Overflow
  deriving DecidableEq, Repr

/-! ## Position Unit (R27) -/

inductive PosState where
  | unknown | known | lost
  deriving DecidableEq, Repr

/-- Kind of a seek, with the boundaries and entry direction of an ENTRY seek (R40). -/
inductive SeekKind where
  | entry (adhBoundary rackBoundary : Nat) (dir : Direction)
  | onRack
  deriving DecidableEq, Repr

/-- The seek record (R27, R40, R41, R43). -/
structure Seek where
  kind      : SeekKind
  /-- Wheel distance counted since the seek began, 0.1 mm. -/
  wheelDist : Nat
  /-- The spacing reference: the wheel distance at the last pinion pulse; empty before the first. -/
  ref       : Option Nat
  good      : Nat
  fault     : Bool
  deriving DecidableEq, Repr

/-- Engagement, holding the seek record while SEEKING (R39). -/
inductive Engagement where
  | disengaged
  | seeking (r : Seek)
  | engaged
  deriving DecidableEq, Repr

/-- Direction of motion as published (R28): NONE while standstill is declared. -/
inductive Motion where
  | none | up | down
  deriving DecidableEq, Repr

/-- Engagement as published: the seek record is the POU's own. -/
inductive EngState where
  | disengaged | seeking | engaged
  deriving DecidableEq, Repr

/-- What a position update carries (R34). -/
structure PosUpdate where
  cHigh      : Nat
  u          : Nat
  posState   : PosState
  vMeas      : Nat
  motion     : Motion
  standstill : Bool
  engagement : EngState
  deriving DecidableEq, Repr

/-- One counted pulse of the speed window: its age in ms and its distance in 0.1 mm (R32). -/
structure WindowPulse where
  age  : Nat
  dist : Nat
  deriving DecidableEq, Repr

/-- The Position Unit (R27). -/
structure Pou where
  fine       : Nat
  uBase      : Nat
  dR         : Nat
  dW         : Nat
  u          : Nat
  posState   : PosState
  lastDir    : Direction
  standstill : Bool
  /-- ms since the last pulse taken, or since the reset (R33). -/
  sincePulse : Nat
  vMeas      : Nat
  window     : List WindowPulse
  engagement : Engagement
  prevSeg    : Option Placed
  silenceDist : Nat
  rollback   : Nat
  /-- This passing of the rollback limit has been reported (R48). -/
  rollbackReported : Bool
  /-- ms since the last position update, or since the reset (R34). -/
  sinceUpdate : Nat
  /-- The last position update published (R34, R61, R76, R125). -/
  last       : PosUpdate
  deriving DecidableEq, Repr

/-! ## Authority Table (R60) -/

inductive Occupation where
  | ahead | occupied
  deriving DecidableEq, Repr

/-- An authority record (R60). `leftMs` is the remaining time, held in ms. -/
structure Authority where
  id         : Nat
  start      : Nat
  stop       : Nat
  dir        : Direction
  cap        : Nat
  expiry     : Nat
  leftMs     : Option Nat
  occupation : Occupation
  deriving DecidableEq, Repr

/-- The authority chain, slot 0 first, and the selected direction (R60, R62). -/
structure Aut where
  chain    : List Authority
  selected : Direction
  deriving DecidableEq, Repr

/-! ## Speed Supervision Unit (R75) -/

/-- The mode caps, in the order of R85. -/
inductive Cap where
  | mode | unknownPosition | noAuthority | search | lostLink | shunt | ceiling
  deriving DecidableEq, Repr

/-- What governs the permitted speed (R88). -/
inductive Source where
  | modeCap (cap : Cap)
  | segment (index : Nat)
  | restriction (id : Nat)
  | overflow
  | authority (id : Nat)
  | authorityEnd
  deriving DecidableEq, Repr

/-- The supervision record less v_perm, which stands beside it (R88). -/
structure SupRecord where
  source   : Source
  target   : Option Nat
  aEff     : Option Nat
  overBody : Option Nat
  deriving DecidableEq, Repr

inductive SupState where
  | clear | advise | intervene | trip
  deriving DecidableEq, Repr

/-- Trip causes, in the order of their codes (R93, R213). -/
inductive TripCause where
  | overspeed | rollback | engageFault | pinionSignal | lockLost | bandFaultMoving | ebLostOnRack
  deriving DecidableEq, Repr

/-- The trip record (R94). Bit k - 1 of the cause set stands for the cause with code k (R213). -/
structure TripRecord where
  first : TripCause
  cHigh : Nat
  vMeas : Nat
  vPerm : Nat
  set   : BitVec 7
  deriving DecidableEq, Repr

inductive LinkState where
  | none | up | silent | lost
  deriving DecidableEq, Repr

/-- What the SSU last used (R89). -/
structure Used where
  vMeas    : Nat
  dir      : Direction
  eb       : Bool
  link     : LinkState
  capValue : Nat
  cap      : Cap
  targets  : Nat
  deriving DecidableEq, Repr

/-- The Speed Supervision Unit (R75). -/
structure Ssu where
  vPerm  : Nat
  record : SupRecord
  state  : SupState
  trip   : Option TripRecord
  used   : Used
  deriving DecidableEq, Repr

/-! ## Brake Control Unit (R99) -/

inductive BandState where
  | applied | releasing | released | applying | fault
  deriving DecidableEq, Repr

inductive BandDemand where
  | apply | release
  deriving DecidableEq, Repr

/-- A band brake: state, its one running timer and its demand (R99, R105, R106). -/
structure BandBrake where
  state  : BandState
  timer  : Option Nat
  demand : BandDemand
  deriving DecidableEq, Repr

/-- The four levels of the WB demand (R103). -/
inductive WbLevel where
  | off | hold | service | full
  deriving DecidableEq, Repr

inductive Follow where
  | confirmed | following
  deriving DecidableEq, Repr

/-- The test state, in the order of R116. -/
inductive TestState where
  | notDone | running1 | running2 | running3 | running4 | running5
  | step1Passed | step2Passed | step3Passed | step4Passed | passed | passedDegraded | failed
  deriving DecidableEq, Repr

inductive TestOutcome where
  | passed | failed | degraded | aborted
  deriving DecidableEq, Repr

/-- A brake channel as a test record names it (R211). -/
inductive Channel where
  | pb1 | pb2 | wb
  deriving DecidableEq, Repr

/-- The reasons of a test record (R116); `none` where the step passed. -/
inductive TestReason where
  | none
  | releaseTimeout (c : Channel)
  | applyTimeout (c : Channel)
  | wbPressure
  | holdLost (c : Channel)
  | ebAbsent
  | abortMotion | abortDoors | abortTrip | abortMode
  deriving DecidableEq, Repr, Inhabited

/-- The test record (R116). -/
structure TestRecord where
  step    : Nat
  outcome : TestOutcome
  reason  : TestReason
  deriving DecidableEq, Repr

/-- The Brake Control Unit (R99). -/
structure Bcu where
  pb1         : BandBrake
  pb2         : BandBrake
  wbDemand    : WbLevel
  follow      : Follow
  followTimer : Option Nat
  wbFault     : Bool
  /-- EB availability: true for AVAILABLE. -/
  ebAvail     : Bool
  ebDegraded  : Bool
  /-- EB demand: true for 100%. -/
  ebDemand    : Bool
  holdCmd     : Bool
  holdConf    : Bool
  driveReq    : Bool
  permission  : Bool
  traction    : Bool
  test        : TestState
  testRec     : Option TestRecord
  /-- The 1.5 s of step 1 and the 1 s watch of step 5 (R118, R121). -/
  stepTimer   : Option Nat
  /-- Step 4 has had FULL confirmed and asks HOLD again (R120). -/
  step4Hold   : Bool
  deriving DecidableEq, Repr

/-! ## Door Control Unit (R124) -/

inductive LeafState where
  | locked | released | opening | opened | warning | closing | reversing | locking | fault | isolated
  deriving DecidableEq, Repr

/-- A peak candidate (R144): P, its position, the position of the last sample taken, the stall timer. -/
structure Candidate where
  peak    : Nat
  peakPos : Nat
  lastPos : Nat
  stall   : Nat
  deriving DecidableEq, Repr

/-- An obstruction record (R145). -/
structure Obstruction where
  stroke   : Nat
  peak     : Nat
  attempts : Nat
  deriving DecidableEq, Repr

/-- One door leaf (R124). -/
structure LeafRec where
  state     : LeafState
  timer     : Option Nat
  attempts  : Nat
  holdOpen  : Bool
  /-- The model's own field (log 39): a DOOR_CLOSE has reached the leaf CLOSING or REVERSING, and it has not stood OPEN since. -/
  closeAsked : Bool
  candidate : Option Candidate
  obstruction : Option Obstruction
  /-- The lock switch has been seen made while the leaf is ISOLATED (R141). -/
  lockSeen  : Bool
  deriving DecidableEq, Repr

inductive ReleaseMode where
  | passenger | crew
  deriving DecidableEq, Repr

/-- One side of the car (R124). -/
structure SideRec where
  mode       : ReleaseMode
  closingOut : Bool
  stop       : Option Nat
  warning    : Bool
  deriving DecidableEq, Repr

/-- The Door Control Unit (R124). -/
structure Dcu where
  a1     : LeafRec
  a2     : LeafRec
  b1     : LeafRec
  b2     : LeafRec
  sideA  : SideRec
  sideB  : SideRec
  /-- The door summary: true for SECURE. -/
  secure : Bool
  deriving DecidableEq, Repr

/-! ## Valley Radio Unit (R149) -/

inductive Xcvr where
  | on | held | restarting
  deriving DecidableEq, Repr

/-- The valley kinds, in the order of their codes (R213). -/
inductive ValleyKind where
  | grant | shorten | revoke | restrict | lift | flushOverflow | stopClose | stopOpen | probe
  deriving DecidableEq, Repr

/-- Outcomes of a valley frame, in the order of their codes (R213). -/
inductive RadioOutcome where
  | taken | gap | direction | full | unknownId | origin | range | mode
  deriving DecidableEq, Repr

/-- The last taken record (R149, R158). -/
structure LastTaken where
  seq     : Byte
  kind    : ValleyKind
  outcome : RadioOutcome
  slot    : Option Nat
  deriving DecidableEq, Repr

/-- Occasions of a REPORT, in the order of their codes (R162, R213). -/
inductive Occasion where
  | periodic | probe | broadcastProbe | tripBurst | linkUp
  deriving DecidableEq, Repr

/-- A car frame waiting in the transmit queue: an ANSWER is filled in when queued, a REPORT when sent (R161). -/
inductive CarFrame where
  | answer (a : LastTaken)
  | report (occasion : Occasion) (probeSeq : Option Byte)
  deriving DecidableEq, Repr

/-- The Valley Radio Unit (R149). -/
structure Vru where
  xcvr        : Xcvr
  restartTimer : Option Nat
  latched     : Option Nat
  /-- START step 2 has been passed: the VRU hunts for frames (R192). -/
  hunting     : Bool
  /-- The bytes of a frame begun and not yet complete (R153). -/
  rx          : List Byte
  link        : LinkState
  silence     : Nat
  /-- The shadow allowance S last formed, in s (R166). -/
  shadow      : Nat
  lastTaken   : Option LastTaken
  heardOther  : Bool
  queue       : List CarFrame
  /-- The frame being sent (R161). -/
  sending     : Option (List Byte)
  /-- ms until its last byte has been sent. -/
  sendTimer   : Option Nat
  txSeq       : Byte
  reportTimer : Option Nat
  burstCount  : Nat
  burstTimer  : Option Nat
  /-- Delay timer of an owed broadcast report; `none` when none is owed (R159). -/
  owed        : Option Nat
  deriving DecidableEq, Repr

/-! ## Nonvolatile Controller, volatile part (R171) -/

inductive BatchState where
  | none | opened | programming | aborted
  deriving DecidableEq, Repr

/-- The batch: its table is PROFILE or STOPS, and its buffer is the list of that table's images (R171, R177). -/
structure Batch where
  state    : BatchState
  table    : Option Table
  declared : Nat
  segments : List Segment
  stops    : List StopRec
  deriving DecidableEq, Repr

/-- The nonvolatile operations with the data they are to write (R174). -/
inductive NvOp where
  | erase (t : Table)
  | commit (t : Table)
  | close (t : Table) (lineEnd : Nat)
  | writeCar (c : CarConfig)
  | programIdentity (i : Identity)
  | lock (t : Table)
  | unlock (t : Table)
  deriving DecidableEq, Repr

/-- The operation in flight (R171). Times in ms. -/
structure InFlight where
  op      : NvOp
  limit   : Nat
  elapsed : Nat
  deriving DecidableEq, Repr

inductive NvResult where
  | done | faultTime | faultSupply
  deriving DecidableEq, Repr

/-- The operation record (R171). -/
structure OpRecord where
  op     : NvOp
  result : NvResult
  deriving DecidableEq, Repr

/-- The volatile part of the NVC (R171). -/
structure Nvc where
  runLock : Bool
  batch   : Batch
  op      : Option InFlight
  opRec   : Option OpRecord
  /-- The supply state: true for LOCKOUT. -/
  lockout : Bool
  deriving DecidableEq, Repr

/-! ## Mode controller (R190) -/

inductive Mode where
  | start | ready | service | depot | parked | waking
  deriving DecidableEq, Repr

inductive VerifyOutcome where
  | matched | mismatched | notClosed
  deriving DecidableEq, Repr

/-- The verification record of one table (R190). -/
structure Verified where
  found   : TableState
  outcome : VerifyOutcome
  deriving DecidableEq, Repr

/-- The mode controller (R190). -/
structure Ctl where
  mode     : Mode
  settle   : Option Nat
  profileV : Option Verified
  stopsV   : Option Verified
  carV     : Option Verified
  /-- ms left of the 1 s within which START ends (R192). -/
  startTimer : Option Nat
  deriving DecidableEq, Repr

/-! ## Command Port (R203) -/

/-- Statuses, in the order of their codes (R211). -/
inductive Status where
  | done | refused | busy | badFrame | unknown
  deriving DecidableEq, Repr

/-- Reasons of a refusal (R211). -/
inductive Reason where
  | none | range | mode | conditions | moving | busy | unknownId | origin | full | notEmpty | heldRequired
  | noStop | closed | sequence | tables | key | runLock | locked | order | aborted | count | supply | badStructure
  deriving DecidableEq, Repr

/-- An owner's outcome: status, reason and the items after the echoed code (R207). -/
structure Answer where
  status : Status
  reason : Reason
  items  : List Byte
  deriving DecidableEq, Repr

/-- The request in progress with the outcome its owner has decided (R206). -/
structure InProgress where
  code   : Byte
  answer : Answer
  /-- ms left of the 2 ms within which the response is ready. -/
  timer  : Nat
  deriving DecidableEq, Repr

/-- The Command Port (R203). -/
structure Cmp where
  inProgress : Option InProgress
  waiting    : Option (List Byte)
  readPos    : Nat
  causes     : BitVec 17
  mask       : BitVec 17
  rdy        : Bool
  attn       : Bool
  /-- The bytes the last transaction clocked out on data out; every byte clocked beyond them was 0 (R204). -/
  dataOut    : List Byte
  deriving DecidableEq, Repr

/-! ## Input lines -/

/-- A byte on its way to the UART (R153): the ms since the byte before it, its value, and whether its stop bit is there. -/
structure LineByte where
  gap     : Nat
  value   : Byte
  stopBit : Bool
  deriving DecidableEq, Repr

/-- The stroke position of each leaf at its last sample, 0 .. 1000 per mille of the close stroke (R125). -/
structure LeafStrokes where
  a1 : Nat
  a2 : Nat
  b1 : Nat
  b2 : Nat
  deriving DecidableEq, Repr

/-- The input lines as last taken. They belong to the car, not to the part: a full reset leaves them (log 11). -/
structure Inp where
  levels   : InputLevels
  pressure : Nat
  strokes  : LeafStrokes
  /-- The keyswitch line as last read. -/
  key      : Bool
  /-- ms until the input filters have settled after a reset; `none` once they have (R124). -/
  settling : Option Nat
  /-- The bytes that the valley radio has on the way to the UART, the next one first: the model's own field (log 33). -/
  line     : List LineByte
  /-- ms passed since the last of them was received. -/
  lineWait : Nat
  deriving DecidableEq, Repr

/-- The part, with the queue of commands waiting, oldest first, and the number of free values drawn so far; both are the
model's own (log 1, log 5). -/
structure State where
  nv      : Nv
  lrs     : Lrs
  pou     : Pou
  aut     : Aut
  ssu     : Ssu
  bcu     : Bcu
  dcu     : Dcu
  vru     : Vru
  nvc     : Nvc
  ctl     : Ctl
  cmp     : Cmp
  inp     : Inp
  pending : List Instr
  drawn   : Nat
  deriving DecidableEq, Repr

/-- The conditions on which the machine stops with a fault. There is none: every rule of the manual leaves the part running
(00, "Taken and refused"), so no constructor stands here and no command can stop the model that way. -/
inductive Fault where
  deriving DecidableEq, Repr

/-- The conditions on which the model gives a command no meaning. -/
inductive Refusal where
  /-- Raised by an arm of `exec` whose command has no meaning yet. No arm raises it. Safe: nothing can be proved of a run past
  it. -/
  | notModelled (mnemonic : String)
  deriving DecidableEq, Repr

/-! ## The machine after reset -/

/-- The fallback values of R18: the default where a field has one, else the lowest value of its range. -/
def fallbackConfig : CarConfig where
  address := 1
  carLength := 800
  pinionOffset := 0
  readerOffset := 0
  leafA1 := ⟨0, 40⟩
  leafA2 := ⟨0, 40⟩
  leafB1 := ⟨0, 40⟩
  leafB2 := ⟨0, 40⟩
  rackPitch := 500
  wheelCirc := 15000
  wheelPulses := 20
  eRack := 1
  eWheel := 1
  uFixRack := 20
  uFixMarker := 10
  uSet := 200
  uMax := 500
  wakeAllowance := 50
  aSvcRack := 0
  aSvcAdh := 0
  aSvcDegr := 0
  buildUp := 0
  warnMargin := 30
  intervMargin := 50
  searchSpeed := 0
  lostLinkSpeed := 0
  shuntSpeed := 0
  rollbackLimit := 10
  linkGrace := 6
  threshold := 0
  hysteresis := 0
  reportPoint := .atPeak
  warnLead := 2
  openDwell := 10
  reopenAttempts := 3

/-- R21: from full reset until the copy of START the service settings hold the fallback values. -/
def Lrs.reset : Lrs where
  settings := { openDwell := 10, warnLead := 2, linkGrace := 6, wheelCirc := 15000 }
  closure := []
  restrictions := []
  overflow := none

/-- R27. DESIGN CHOICE (log 9): before the first position update its receivers hold the POU's own reset values. -/
def Pou.reset : Pou where
  fine := 0
  uBase := 65535
  dR := 0
  dW := 0
  u := 65535
  posState := .unknown
  lastDir := .up
  standstill := false
  sincePulse := 0
  vMeas := 0
  window := []
  engagement := .disengaged
  prevSeg := none
  silenceDist := 0
  rollback := 0
  rollbackReported := false
  sinceUpdate := 0
  last := { cHigh := 0, u := 65535, posState := .unknown, vMeas := 0, motion := .up, standstill := false,
            engagement := .disengaged }

/-- R60, R62. -/
def Aut.reset : Aut := { chain := [], selected := .up }

/-- R75. DESIGN CHOICE (log 9): the inputs last used, before any recomputation. -/
def Ssu.reset : Ssu where
  vPerm := 0
  record := { source := .modeCap .mode, target := none, aEff := none, overBody := none }
  state := .advise
  trip := none
  used := { vMeas := 0, dir := .up, eb := false, link := .none, capValue := 0, cap := .mode, targets := 0 }

/-- R99, R105: both bands APPLYING on their 0.8 s apply timer, WB at HOLD and FOLLOWING on its 1.5 s timer. -/
def Bcu.reset : Bcu where
  pb1 := { state := .applying, timer := some 800, demand := .apply }
  pb2 := { state := .applying, timer := some 800, demand := .apply }
  wbDemand := .hold
  follow := .following
  followTimer := some 1500
  wbFault := false
  ebAvail := false
  ebDegraded := false
  ebDemand := false
  holdCmd := true
  holdConf := false
  driveReq := false
  permission := false
  traction := false
  test := .notDone
  testRec := none
  stepTimer := none
  step4Hold := false

/-- R124: every leaf is held in FAULT until the input filter has settled. -/
def LeafRec.reset : LeafRec where
  state := .fault
  timer := none
  attempts := 0
  holdOpen := false
  closeAsked := false
  candidate := none
  obstruction := none
  lockSeen := false

/-- R124. -/
def SideRec.reset : SideRec := { mode := .passenger, closingOut := false, stop := none, warning := false }

/-- R124. -/
def Dcu.reset : Dcu where
  a1 := LeafRec.reset
  a2 := LeafRec.reset
  b1 := LeafRec.reset
  b2 := LeafRec.reset
  sideA := SideRec.reset
  sideB := SideRec.reset
  secure := false

/-- R149. The address is latched, and the hunt begun, at step 2 of START (R192). DESIGN CHOICE (log 9): the latched address is none
until then. -/
def Vru.reset : Vru where
  xcvr := .on
  restartTimer := none
  latched := none
  hunting := false
  rx := []
  link := .none
  silence := 0
  shadow := 0
  lastTaken := none
  heardOther := false
  queue := []
  sending := none
  sendTimer := none
  txSeq := 0
  reportTimer := none
  burstCount := 0
  burstTimer := none
  owed := none

/-- R171: the batch NONE with its buffer empty. DESIGN CHOICE (log 54): it names no table and declares 0. -/
def Batch.reset : Batch := { state := .none, table := none, declared := 0, segments := [], stops := [] }

/-- R171. DESIGN CHOICE (log 9): the supply stands above the threshold at power-on. -/
def Nvc.reset : Nvc := { runLock := false, batch := Batch.reset, op := none, opRec := none, lockout := false }

/-- R190, R192. -/
def Ctl.reset : Ctl :=
  { mode := .start, settle := none, profileV := none, stopsV := none, carV := none, startTimer := some 1000 }

/-- R203. -/
def Cmp.reset : Cmp where
  inProgress := none
  waiting := none
  readPos := 0
  causes := 0
  mask := BitVec.allOnes 17
  rdy := false
  attn := false
  dataOut := []

/-- A table as delivered (R171; DESIGN CHOICE, log 10). -/
def TableInfo.blank : TableInfo := { state := .empty, check := none, lock := false, unwritten := none }

/-- The store as delivered. DESIGN CHOICE (log 10), after step 1 of the commissioning sequence (11). -/
def Nv.blank : Nv where
  segments := []
  stops := []
  config := none
  identity := none
  idLock := false
  profileT := TableInfo.blank
  stopsT := TableInfo.blank
  carT := TableInfo.blank

/-- No switch made. DESIGN CHOICE (log 9). -/
def lowLevels : InputLevels where
  a1 := ⟨false, false, false, false⟩
  a2 := ⟨false, false, false, false⟩
  b1 := ⟨false, false, false, false⟩
  b2 := ⟨false, false, false, false⟩
  pb1 := ⟨false, false⟩
  pb2 := ⟨false, false⟩
  ebReady := false

/-- The input lines of a part just powered on. DESIGN CHOICE (log 9) but for the 20 ms of R124. -/
def Inp.reset : Inp :=
  { levels := lowLevels, pressure := 0, strokes := { a1 := 0, a2 := 0, b1 := 0, b2 := 0 }, key := false, settling := some 20,
    line := [], lineWait := 0 }

/-- The machine right after the first full reset of a new part (R190). -/
def State.reset : State where
  nv := Nv.blank
  lrs := Lrs.reset
  pou := Pou.reset
  aut := Aut.reset
  ssu := Ssu.reset
  bcu := Bcu.reset
  dcu := Dcu.reset
  vru := Vru.reset
  nvc := Nvc.reset
  ctl := Ctl.reset
  cmp := Cmp.reset
  inp := Inp.reset
  pending := []
  drawn := 0

end Sys2Proof.Machine
end

