-- ==== Sys2Proof/Config.lean ====
section
/-! DEFINITION. The free values: constants with no body, so that nothing can be proved of the value the manual does not state.
A statement that meets one holds whatever it is. -/

namespace Sys2Proof.Config

/-- The one byte sent for a count above 255, which R211 gives one byte and no coding (log 16). -/
opaque overlongCount : Nat → Byte

/-- The four bytes sent for a time of 2^32 ms or more, which R211 gives four bytes and no coding (log 16). -/
opaque overlongTime : Nat → Quad

/-- The reason a test record gives where a band brake faults during a step and no rule names the reason
(R107, R116, R118, R119, R121; log 17). -/
opaque unstatedReason : Nat → Band → Machine.TestReason

/-- How far a nonvolatile operation had got when its time limit came, where the event is the part's own and no command says it
(R174, R180, R187; log 5). The argument counts the draws, so each is free of the others. -/
opaque unstatedCut : Nat → Cut

end Sys2Proof.Config
end

