-- ==== Sys2Proof/Machine/Crc.lean ====
section
/-! DEFINITION. The two cyclic codes of the part: CRC-16 of radio frames and check words (R154, R183), CRC-8 of the
Command Port (R205). Both take each byte most significant bit first and invert nothing at the end. -/

namespace Sys2Proof.Machine

/-- One bit through the CRC-16 register, polynomial x^16 + x^12 + x^5 + 1 (R154). -/
def crc16Bit (r : BitVec 16) : BitVec 16 :=
  if r.msb then (r <<< 1) ^^^ 0x1021#16 else r <<< 1

/-- One byte through the CRC-16 register. -/
def crc16Byte (r : BitVec 16) (b : Byte) : BitVec 16 :=
  Nat.repeat crc16Bit 8 (r ^^^ (b.setWidth 16 <<< 8))

/-- The CRC-16 of R154, initial value FFFF. -/
def crc16 (bs : List Byte) : BitVec 16 :=
  bs.foldl crc16Byte 0xFFFF#16

/-- One bit through the CRC-8 register, polynomial x^8 + x^2 + x + 1 (R205). -/
def crc8Bit (r : Byte) : Byte :=
  if r.msb then (r <<< 1) ^^^ 0x07#8 else r <<< 1

/-- One byte through the CRC-8 register. -/
def crc8Byte (r b : Byte) : Byte :=
  Nat.repeat crc8Bit 8 (r ^^^ b)

/-- The CRC-8 of R205, initial value 0. -/
def crc8 (bs : List Byte) : Byte :=
  bs.foldl crc8Byte 0#8

end Sys2Proof.Machine
end

