-- ==== Sys2Proof/Machine/Operands.lean ====
section
/-! DEFINITION. The codings of R211 to R214: how each quantity and named value is written in a frame, an image or a payload,
and how the arguments and images sent to the part are read. -/

namespace Sys2Proof.Machine

/-! ## Writing (R211) -/

/-- One byte of a whole number. -/
def byteOf (n : Nat) : Byte := BitVec.ofNat 8 n

/-- Two bytes, high byte first. -/
def halfBytes (n : Nat) : List Byte := [byteOf (n / 256), byteOf n]

/-- Three bytes, high byte first: a chainage or a cause mask. -/
def chainBytes (n : Nat) : List Byte := [byteOf (n / 65536), byteOf (n / 256), byteOf n]

/-- Four bytes, high byte first. -/
def quadBytes (n : Nat) : List Byte :=
  [byteOf (n / 16777216), byteOf (n / 65536), byteOf (n / 256), byteOf n]

/-- A gradient: two bytes, two's complement. -/
def gradientBytes (g : Int) : List Byte := halfBytes (BitVec.ofInt 16 g).toNat

/-- C_low, pinion point, reader point: four bytes, two's complement. -/
def pointBytes (c : Int) : List Byte := quadBytes (BitVec.ofInt 32 c).toNat

/-- A count: one byte; above 255 a free value (log 16). -/
def countByte (n : Nat) : Byte := if n < 256 then byteOf n else Config.overlongCount n

/-- A time in ms: four bytes; from 2^32 on a free value (log 16). -/
def timeBytes (n : Nat) : List Byte :=
  if n < 4294967296 then quadBytes n else quadBytes (Config.overlongTime n).toNat

/-- A timer that may be stopped: its time left, 0 when stopped (log 14). -/
def timerBytes (t : Option Nat) : List Byte := timeBytes (t.getD 0)

/-- A flag (R211). -/
def flagByte (b : Bool) : Byte := if b then 1#8 else 0#8

/-- An optional field of `len` bytes: presence byte, then the field, all zeros when absent (R211). -/
def optField {α : Type} (len : Nat) (enc : α → List Byte) : Option α → List Byte
  | none => List.replicate (len + 1) 0#8
  | some a => 1#8 :: enc a

/-- A list of one-byte items, its count first (log 14). -/
def countedBytes (bs : List Byte) : List Byte := countByte bs.length :: bs

/-! ## Codes of named values (R211, R213) -/

def directionCode : Direction → Byte
  | .up => 1#8
  | .down => 2#8

def Motion.code : Motion → Byte
  | .none => 0#8
  | .up => 1#8
  | .down => 2#8

def Applies.code : Applies → Byte
  | .up => 1#8
  | .down => 2#8
  | .both => 3#8

def SegKind.code : SegKind → Byte
  | .adhesion => 1#8
  | .transition => 2#8
  | .rack => 3#8

def Sides.code : Sides → Byte
  | .a => 1#8
  | .b => 2#8
  | .ab => 3#8

def Origin.code : Origin → Byte
  | .valley => 1#8
  | .crew => 2#8

def Occupation.code : Occupation → Byte
  | .ahead => 1#8
  | .occupied => 2#8

def leafCode : Leaf → Byte
  | .a1 => 1#8
  | .a2 => 2#8
  | .b1 => 3#8
  | .b2 => 4#8

def tableCode : Table → Byte
  | .profile => 1#8
  | .stops => 2#8
  | .car => 3#8

/-- The channel of a test record reason (R211): PB1 1, PB2 2, WB 3. -/
def Channel.num : Channel → Nat
  | .pb1 => 1
  | .pb2 => 2
  | .wb => 3

def ReportPoint.code : ReportPoint → Byte
  | .atPeak => 1#8
  | .atFall => 2#8

def PosState.code : PosState → Byte
  | .unknown => 1#8
  | .known => 2#8
  | .lost => 3#8

def EngState.code : EngState → Byte
  | .disengaged => 1#8
  | .seeking => 2#8
  | .engaged => 3#8

def SeekKind.code : SeekKind → Byte
  | .entry _ _ _ => 1#8
  | .onRack => 2#8

def SupState.code : SupState → Byte
  | .clear => 1#8
  | .advise => 2#8
  | .intervene => 3#8
  | .trip => 4#8

/-- Number of a trip cause (R213). -/
def TripCause.num : TripCause → Nat
  | .overspeed => 1
  | .rollback => 2
  | .engageFault => 3
  | .pinionSignal => 4
  | .lockLost => 5
  | .bandFaultMoving => 6
  | .ebLostOnRack => 7

def Cap.num : Cap → Nat
  | .mode => 1
  | .unknownPosition => 2
  | .noAuthority => 3
  | .search => 4
  | .lostLink => 5
  | .shunt => 6
  | .ceiling => 7

def BandState.code : BandState → Byte
  | .applied => 1#8
  | .releasing => 2#8
  | .released => 3#8
  | .applying => 4#8
  | .fault => 5#8

def BandDemand.code : BandDemand → Byte
  | .apply => 1#8
  | .release => 2#8

def WbLevel.code : WbLevel → Byte
  | .off => 1#8
  | .hold => 2#8
  | .service => 3#8
  | .full => 4#8

def Follow.code : Follow → Byte
  | .confirmed => 1#8
  | .following => 2#8

/-- EB availability: AVAILABLE 1, UNAVAILABLE 2 (R99). -/
def ebCode (avail : Bool) : Byte := if avail then 1#8 else 2#8

def TestState.code : TestState → Byte
  | .notDone => 1#8
  | .running1 => 2#8
  | .running2 => 3#8
  | .running3 => 4#8
  | .running4 => 5#8
  | .running5 => 6#8
  | .step1Passed => 7#8
  | .step2Passed => 8#8
  | .step3Passed => 9#8
  | .step4Passed => 10#8
  | .passed => 11#8
  | .passedDegraded => 12#8
  | .failed => 13#8

def TestOutcome.code : TestOutcome → Byte
  | .passed => 1#8
  | .failed => 2#8
  | .degraded => 3#8
  | .aborted => 4#8

/-- A test record reason: its kind in the order of R116, then the channel (R211); zeros where the step passed (log 14). -/
def TestReason.bytes : TestReason → List Byte
  | .none => [0#8, 0#8, 0#8]
  | .releaseTimeout c => 1#8 :: halfBytes c.num
  | .applyTimeout c => 2#8 :: halfBytes c.num
  | .wbPressure => [3#8, 0#8, 0#8]
  | .holdLost c => 4#8 :: halfBytes c.num
  | .ebAbsent => [5#8, 0#8, 0#8]
  | .abortMotion => [6#8, 0#8, 0#8]
  | .abortDoors => [7#8, 0#8, 0#8]
  | .abortTrip => [8#8, 0#8, 0#8]
  | .abortMode => [9#8, 0#8, 0#8]

def LeafState.code : LeafState → Byte
  | .locked => 1#8
  | .released => 2#8
  | .opening => 3#8
  | .opened => 4#8
  | .warning => 5#8
  | .closing => 6#8
  | .reversing => 7#8
  | .locking => 8#8
  | .fault => 9#8
  | .isolated => 10#8

def ReleaseMode.code : ReleaseMode → Byte
  | .passenger => 1#8
  | .crew => 2#8

/-- The door summary: SECURE 1, NOT_SECURE 2 (R213). -/
def summaryCode (secure : Bool) : Byte := if secure then 1#8 else 2#8

def Xcvr.code : Xcvr → Byte
  | .on => 1#8
  | .held => 2#8
  | .restarting => 3#8

def LinkState.code : LinkState → Byte
  | .none => 1#8
  | .up => 2#8
  | .silent => 3#8
  | .lost => 4#8

/-- Valley kinds (R213). -/
def ValleyKind.code : ValleyKind → Byte
  | .grant => 0x01#8
  | .shorten => 0x02#8
  | .revoke => 0x03#8
  | .restrict => 0x04#8
  | .lift => 0x05#8
  | .flushOverflow => 0x06#8
  | .stopClose => 0x07#8
  | .stopOpen => 0x08#8
  | .probe => 0x09#8

def RadioOutcome.code : RadioOutcome → Byte
  | .taken => 0x00#8
  | .gap => 0x01#8
  | .direction => 0x02#8
  | .full => 0x03#8
  | .unknownId => 0x04#8
  | .origin => 0x05#8
  | .range => 0x06#8
  | .mode => 0x07#8

def Occasion.code : Occasion → Byte
  | .periodic => 1#8
  | .probe => 2#8
  | .broadcastProbe => 3#8
  | .tripBurst => 4#8
  | .linkUp => 5#8

/-- Table states of the profile and stop table, in the order of R171. -/
def TableState.code : TableState → Byte
  | .empty => 1#8
  | .loading => 2#8
  | .closed => 3#8
  | .incomplete => 4#8
  | .corrupt => 5#8

/-- Table states of the car record (EMPTY, CLOSED, INCOMPLETE), in the order of R171. -/
def TableState.carCode : TableState → Byte
  | .empty => 1#8
  | .closed => 2#8
  | .incomplete => 3#8
  | .loading => 0#8
  | .corrupt => 0#8

/-- The state of a table as its own code. -/
def TableState.codeFor (t : Table) (st : TableState) : Byte :=
  match t with
  | .car => st.carCode
  | .profile => st.code
  | .stops => st.code

def BatchState.code : BatchState → Byte
  | .none => 1#8
  | .opened => 2#8
  | .programming => 3#8
  | .aborted => 4#8

/-- The operation kinds, in the order in which R174 first names them (log 15). -/
def NvOp.code : NvOp → Byte
  | .erase _ => 1#8
  | .commit _ => 2#8
  | .close _ _ => 3#8
  | .writeCar _ => 4#8
  | .programIdentity _ => 5#8
  | .lock _ => 6#8
  | .unlock _ => 7#8

/-- The table an operation concerns (R174). -/
def NvOp.table : NvOp → Table
  | .erase t => t
  | .commit t => t
  | .close t _ => t
  | .writeCar _ => .car
  | .programIdentity _ => .car
  | .lock t => t
  | .unlock t => t

/-- Result and reason of an operation record: DONE 1, NV_FAULT 2; TIME 1, SUPPLY 2, none 0 (R171, log 15). -/
def NvResult.bytes : NvResult → List Byte
  | .done => [1#8, 0#8]
  | .faultTime => [2#8, 1#8]
  | .faultSupply => [2#8, 2#8]

def Mode.code : Mode → Byte
  | .start => 1#8
  | .ready => 2#8
  | .service => 3#8
  | .depot => 4#8
  | .parked => 5#8
  | .waking => 6#8

def VerifyOutcome.code : VerifyOutcome → Byte
  | .matched => 1#8
  | .mismatched => 2#8
  | .notClosed => 3#8

def Status.code : Status → Byte
  | .done => 0x00#8
  | .refused => 0x01#8
  | .busy => 0x02#8
  | .badFrame => 0x03#8
  | .unknown => 0x04#8

def Reason.code : Reason → Byte
  | .none => 0x00#8
  | .range => 0x01#8
  | .mode => 0x02#8
  | .conditions => 0x03#8
  | .moving => 0x04#8
  | .busy => 0x05#8
  | .unknownId => 0x06#8
  | .origin => 0x07#8
  | .full => 0x08#8
  | .notEmpty => 0x09#8
  | .heldRequired => 0x0A#8
  | .noStop => 0x0C#8
  | .closed => 0x0D#8
  | .sequence => 0x0E#8
  | .tables => 0x0F#8
  | .key => 0x10#8
  | .runLock => 0x11#8
  | .locked => 0x12#8
  | .order => 0x13#8
  | .aborted => 0x14#8
  | .count => 0x15#8
  | .supply => 0x16#8
  | .badStructure => 0x18#8

/-- The source of the supervision record: its kind in the order of R88, then the index, id or cap (R211, log 15). -/
def Source.bytes : Source → List Byte
  | .modeCap c => 1#8 :: halfBytes c.num
  | .segment i => 2#8 :: halfBytes i
  | .restriction i => 3#8 :: halfBytes i
  | .overflow => [4#8, 0#8, 0#8]
  | .authority i => 5#8 :: halfBytes i
  | .authorityEnd => [6#8, 0#8, 0#8]

/-! ## Images (R212) -/

/-- Segment image, 15 bytes. -/
def Segment.image (g : Segment) : List Byte :=
  chainBytes g.start ++ optField 3 chainBytes g.endC ++ gradientBytes g.gradient ++ [g.kind.code] ++
    halfBytes g.limitUp ++ halfBytes g.limitDown ++ [byteOf g.shadow]

/-- One window: from, then to. -/
def Window.image (w : Window) : List Byte := chainBytes w.lo ++ chainBytes w.hi

/-- Stop image, 12 + 6 n bytes. -/
def StopRec.image (p : StopRec) : List Byte :=
  [byteOf p.number] ++ chainBytes p.reference ++ halfBytes p.tolerance ++ [p.sides.code] ++
    optField 3 chainBytes p.marker ++ [byteOf p.windows.length] ++ (p.windows.map Window.image).flatten

/-- Restriction image, 12 bytes. -/
def Restriction.image (r : Restriction) : List Byte :=
  halfBytes r.id ++ chainBytes r.start ++ chainBytes r.stop ++ halfBytes r.limit ++ [r.applies.code, r.origin.code]

/-- The remaining time in whole seconds: it falls by one at each whole second after the grant (R67). -/
def Authority.remaining (r : Authority) : Option Nat := r.leftMs.map (fun m => (m + 999) / 1000)

/-- Authority image, 16 bytes; the remaining time is FFFF when absent. -/
def Authority.image (r : Authority) : List Byte :=
  halfBytes r.id ++ chainBytes r.start ++ chainBytes r.stop ++ [directionCode r.dir] ++ halfBytes r.cap ++
    halfBytes r.expiry ++ halfBytes (r.remaining.getD 0xFFFF) ++ [r.occupation.code]

/-- Offset, then width, of one leaf. -/
def LeafPlace.image (l : LeafPlace) : List Byte := halfBytes l.offset ++ halfBytes l.width

/-- Configuration image, 66 bytes, every field present. -/
def CarConfig.image (c : CarConfig) : List Byte :=
  [byteOf c.address] ++ halfBytes c.carLength ++ halfBytes c.pinionOffset ++ halfBytes c.readerOffset ++
    c.leafA1.image ++ c.leafA2.image ++ c.leafB1.image ++ c.leafB2.image ++
    halfBytes c.rackPitch ++ halfBytes c.wheelCirc ++ [byteOf c.wheelPulses, byteOf c.eRack, byteOf c.eWheel] ++
    halfBytes c.uFixRack ++ halfBytes c.uFixMarker ++ halfBytes c.uSet ++ halfBytes c.uMax ++ halfBytes c.wakeAllowance ++
    halfBytes c.aSvcRack ++ halfBytes c.aSvcAdh ++ halfBytes c.aSvcDegr ++ halfBytes c.buildUp ++
    halfBytes c.warnMargin ++ halfBytes c.intervMargin ++
    halfBytes c.searchSpeed ++ halfBytes c.lostLinkSpeed ++ halfBytes c.shuntSpeed ++
    [byteOf c.rollbackLimit, byteOf c.linkGrace, byteOf c.threshold, byteOf c.hysteresis, c.reportPoint.code,
     byteOf c.warnLead, byteOf c.openDwell, byteOf c.reopenAttempts]

/-! ## Reading arguments (R211, R214) -/

def directionOf (b : Byte) : Option Direction :=
  match b.toNat with
  | 1 => some .up
  | 2 => some .down
  | _ => none

def appliesOf (b : Byte) : Option Applies :=
  match b.toNat with
  | 1 => some .up
  | 2 => some .down
  | 3 => some .both
  | _ => none

def sideOf (b : Byte) : Option Side :=
  match b.toNat with
  | 1 => some .a
  | 2 => some .b
  | _ => none

def leafOf (b : Byte) : Option Leaf :=
  match b.toNat with
  | 1 => some .a1
  | 2 => some .a2
  | 3 => some .b1
  | 4 => some .b2
  | _ => none

def tableOf (b : Byte) : Option Table :=
  match b.toNat with
  | 1 => some .profile
  | 2 => some .stops
  | 3 => some .car
  | _ => none

/-- The tables loaded in batches and closed: PROFILE or STOPS (R177, R182). -/
def loadTableOf (b : Byte) : Option Table :=
  match b.toNat with
  | 1 => some .profile
  | 2 => some .stops
  | _ => none

def releaseModeOf (b : Byte) : Option ReleaseMode :=
  match b.toNat with
  | 1 => some .passenger
  | 2 => some .crew
  | _ => none

/-- An ON 1 or OFF 0 byte. -/
def onOffOf (b : Byte) : Option Bool :=
  match b.toNat with
  | 0 => some false
  | 1 => some true
  | _ => none

/-- The service settings by their codes (R214). -/
inductive Setting where
  | openDwell | warnLead | linkGrace | wheelCirc
  deriving DecidableEq, Repr

def settingOf (b : Byte) : Option Setting :=
  match b.toNat with
  | 1 => some .openDwell
  | 2 => some .warnLead
  | 3 => some .linkGrace
  | 4 => some .wheelCirc
  | _ => none

def segKindOf (b : Byte) : Option SegKind :=
  match b.toNat with
  | 1 => some .adhesion
  | 2 => some .transition
  | 3 => some .rack
  | _ => none

def sidesOf (b : Byte) : Option Sides :=
  match b.toNat with
  | 1 => some .a
  | 2 => some .b
  | 3 => some .ab
  | _ => none

def reportPointOf (n : Nat) : Option ReportPoint :=
  match n with
  | 1 => some .atPeak
  | 2 => some .atFall
  | _ => none

/-! ## Reading images (R212) -/

/-- Two bytes, high byte first. -/
def half (a b : Byte) : Nat := a.toNat * 256 + b.toNat

/-- Three bytes, high byte first. -/
def chain (a b c : Byte) : Nat := a.toNat * 65536 + b.toNat * 256 + c.toNat

/-- The ranges of R3. -/
def Segment.ok (g : Segment) : Bool :=
  g.start ≤ 16777215 && g.endC.isNone && -300 ≤ g.gradient && g.gradient ≤ 300 && g.limitUp ≤ 2000 &&
    g.limitDown ≤ 2000 && g.shadow ≤ 60

/-- A segment image as PUT_RECORD takes it: fields in range, the end absent (R3, R178, R212). DEDUCED (log 57): the presence byte alone
says that the end is absent, and the three bytes after it are disregarded. -/
def parseSegment : List Byte → Option Segment
  | [s2, s1, s0, p, _, _, _, g1, g0, k, u1, u0, d1, d0, sh] =>
    match segKindOf k with
    | none => none
    | some kind =>
      let g : Segment :=
        { start := chain s2 s1 s0, endC := none, gradient := (g1 ++ g0 : BitVec 16).toInt, kind := kind,
          limitUp := half u1 u0, limitDown := half d1 d0, shadow := sh.toNat }
      if p = 0#8 && g.ok then some g else none
  | _ => none

/-- The windows of a stop image, six bytes each. -/
def parseWindows : List Byte → Option (List Window)
  | [] => some []
  | a :: b :: c :: d :: e :: f :: rest =>
    match parseWindows rest with
    | none => none
    | some ws => some ({ lo := chain a b c, hi := chain d e f } :: ws)
  | _ => none

/-- R10: each window's from below its to, in rising order, no two sharing a chainage. -/
def windowsOk : List Window → Bool
  | [] => true
  | [w] => w.lo < w.hi
  | w :: v :: rest => w.lo < w.hi && w.hi ≤ v.lo && windowsOk (v :: rest)

/-- The ranges of R9 and R10. -/
def StopRec.ok (p : StopRec) : Bool :=
  1 ≤ p.number && p.number ≤ 255 && p.reference ≤ 16777215 && 10 ≤ p.tolerance && p.tolerance ≤ 500 &&
    1 ≤ p.windows.length && p.windows.length ≤ 4 && windowsOk p.windows

/-- An optional chainage as an image carries it: presence byte 0 or 1 (R211). DEDUCED (log 57): with the presence byte 0 the three bytes
after it are disregarded. -/
def optChain (p a b c : Byte) : Option (Option Nat) :=
  match p.toNat with
  | 0 => some none
  | 1 => some (some (chain a b c))
  | _ => none

/-- A stop image: fields in range, as many windows as its count says (R9, R10, R178, R212). -/
def parseStop : List Byte → Option StopRec
  | num :: r2 :: r1 :: r0 :: t1 :: t0 :: sd :: mp :: m2 :: m1 :: m0 :: n :: ws =>
    match sidesOf sd, optChain mp m2 m1 m0, parseWindows ws with
    | some sides, some marker, some windows =>
      let p : StopRec :=
        { number := num.toNat, reference := chain r2 r1 r0, tolerance := half t1 t0, sides := sides,
          marker := marker, windows := windows }
      if windows.length = n.toNat && p.ok then some p else none
    | _, _, _ => none
  | _ => none

/-- Whether a PUT_RECORD argument has the length of an image: 15, or 12 + 6 n with n its twelfth byte (R205, check 4). -/
def imageLengthOk (img : List Byte) : Bool :=
  img.length = 15 || (12 ≤ img.length && img.length = 12 + 6 * (img.getD 11 0#8).toNat)

/-- Field widths of the configuration image, in the order of R16 (R212). -/
def configWidths : List Nat :=
  [1, 2, 2, 2] ++ [2, 2, 2, 2, 2, 2, 2, 2] ++ [2, 2, 1, 1, 1] ++ [2, 2, 2, 2, 2] ++ [2, 2, 2, 2, 2, 2] ++ [2, 2, 2] ++
    [1, 1, 1, 1, 1, 1, 1, 1]

/-- The fields of an image, by their widths; `none` where the lengths differ. -/
def readFields : List Nat → List Byte → Option (List Nat)
  | [], [] => some []
  | 1 :: ws, a :: bs =>
    match readFields ws bs with
    | none => none
    | some r => some (a.toNat :: r)
  | 2 :: ws, a :: b :: bs =>
    match readFields ws bs with
    | none => none
    | some r => some (half a b :: r)
  | _, _ => none

/-- The leaf lies within the car: offset plus width no greater than the car length (R16, R17). -/
def LeafPlace.ok (l : LeafPlace) (len : Nat) : Bool :=
  l.offset ≤ len && 40 ≤ l.width && l.width ≤ 400 && l.offset + l.width ≤ len

/-- The spans [offset, offset + width) of two leaves of one side share no point (R17). -/
def LeafPlace.apart (l m : LeafPlace) : Bool :=
  l.offset + l.width ≤ m.offset || m.offset + m.width ≤ l.offset

/-- The ranges of R16 and the further conditions of R17. -/
def CarConfig.ok (c : CarConfig) : Bool :=
  1 ≤ c.address && c.address ≤ 250 && 800 ≤ c.carLength && c.carLength ≤ 4000 &&
  c.pinionOffset ≤ c.carLength && c.readerOffset ≤ c.carLength &&
  c.leafA1.ok c.carLength && c.leafA2.ok c.carLength && c.leafB1.ok c.carLength && c.leafB2.ok c.carLength &&
  c.leafA1.apart c.leafA2 && c.leafB1.apart c.leafB2 &&
  500 ≤ c.rackPitch && c.rackPitch ≤ 2000 && 15000 ≤ c.wheelCirc && c.wheelCirc ≤ 40000 &&
  20 ≤ c.wheelPulses && c.wheelPulses ≤ 200 && 1 ≤ c.eRack && c.eRack ≤ 20 && 1 ≤ c.eWheel && c.eWheel ≤ 50 &&
  c.uFixRack ≤ c.uMax && c.uFixMarker ≤ c.uMax && c.uSet ≤ c.uMax && 500 ≤ c.uMax && c.uMax ≤ 20000 &&
  c.wakeAllowance ≤ 5000 && c.aSvcRack ≤ 500 && c.aSvcAdh ≤ 500 && c.aSvcDegr ≤ 500 && c.buildUp ≤ 5000 &&
  c.warnMargin ≤ 500 && c.intervMargin ≤ 500 && c.searchSpeed ≤ 2000 && c.lostLinkSpeed ≤ 2000 && c.shuntSpeed ≤ 2000 &&
  10 ≤ c.rollbackLimit && c.rollbackLimit ≤ 200 && c.linkGrace ≤ 30 && c.linkGrace % 2 = 0 &&
  c.threshold ≤ 255 && c.hysteresis ≤ 255 && c.warnLead ≤ 5 && 3 ≤ c.openDwell && c.openDwell ≤ 60 &&
  1 ≤ c.reopenAttempts && c.reopenAttempts ≤ 5

/-- The image of WRITE_CAR_RECORD with the defaults stored for its absent fields; `none` where R16 or R17 refuses it. Bit i
of `present` names the i-th field with a default, in table order (R16, R17, R184, R212). DEDUCED (log 46): the bits above the
thirteenth name no field and are disregarded. -/
def parseConfig (present : Half) (img : List Byte) : Option CarConfig :=
  let d (i v dflt : Nat) : Nat := if present.getLsbD i then v else dflt
  match readFields configWidths img with
  | some (addr :: len :: pin :: rdr :: o1 :: w1 :: o2 :: w2 :: o3 :: w3 :: o4 :: w4 :: pitch :: circ :: pulses
          :: er :: ew :: ufr :: ufm :: us :: um :: wk :: ar :: aa :: ad :: lb :: w :: i :: se :: ll :: sh ::
          rb :: lg :: t :: h :: rp :: wl :: od :: ra :: []) =>
    match reportPointOf rp with
    | none => none
    | some point =>
      let c : CarConfig :=
        { address := addr, carLength := len, pinionOffset := pin, readerOffset := rdr,
          leafA1 := ⟨o1, w1⟩, leafA2 := ⟨o2, w2⟩, leafB1 := ⟨o3, w3⟩, leafB2 := ⟨o4, w4⟩,
          rackPitch := pitch, wheelCirc := circ, wheelPulses := pulses, eRack := er, eWheel := ew,
          uFixRack := d 0 ufr 20, uFixMarker := d 1 ufm 10, uSet := d 2 us 200, uMax := um,
          wakeAllowance := d 3 wk 50, aSvcRack := ar, aSvcAdh := aa, aSvcDegr := ad, buildUp := lb,
          warnMargin := d 4 w 30, intervMargin := d 5 i 50, searchSpeed := d 6 se 280, lostLinkSpeed := d 7 ll 420,
          shuntSpeed := d 8 sh 280, rollbackLimit := rb, linkGrace := d 9 lg 6, threshold := t, hysteresis := h,
          reportPoint := point, warnLead := d 10 wl 2, openDwell := d 11 od 10, reopenAttempts := d 12 ra 3 }
      if c.ok then some c else none
  | _ => none

/-- A lookup by byte of the cause set: bits 17 to 23 of a mask are ignored when received (R209). -/
def causeMask (m : Chain) : BitVec 17 := m.setWidth 17

/-- A cause set as a payload carries it: three bytes, bits 17 to 23 sent as 0 (R209). -/
def causeBytes (c : BitVec 17) : List Byte := chainBytes c.toNat

end Sys2Proof.Machine
end

