-- ==== Sys2Proof/Machine/Ops.lean ====
section
/-! DEFINITION. The named updates of the state, one per block: every meaning reaches a block's state through its own update, so
that what a command leaves alone can be read off. Their lemmas stand in Sys2Proof/Laws/State.lean. -/

namespace Sys2Proof.Machine

/-- Change the nonvolatile store alone. -/
def State.onNv (f : Nv → Nv) (s : State) : State := { s with nv := f s.nv }

/-- Change the Line Record Store alone. -/
def State.onLrs (f : Lrs → Lrs) (s : State) : State := { s with lrs := f s.lrs }

/-- Change the Position Unit alone. -/
def State.onPou (f : Pou → Pou) (s : State) : State := { s with pou := f s.pou }

/-- Change the Authority Table alone. -/
def State.onAut (f : Aut → Aut) (s : State) : State := { s with aut := f s.aut }

/-- Change the Speed Supervision Unit alone. -/
def State.onSsu (f : Ssu → Ssu) (s : State) : State := { s with ssu := f s.ssu }

/-- Change the Brake Control Unit alone. -/
def State.onBcu (f : Bcu → Bcu) (s : State) : State := { s with bcu := f s.bcu }

/-- Change the Door Control Unit alone. -/
def State.onDcu (f : Dcu → Dcu) (s : State) : State := { s with dcu := f s.dcu }

/-- Change the Valley Radio Unit alone. -/
def State.onVru (f : Vru → Vru) (s : State) : State := { s with vru := f s.vru }

/-- Change the Nonvolatile Controller alone. -/
def State.onNvc (f : Nvc → Nvc) (s : State) : State := { s with nvc := f s.nvc }

/-- Change the mode controller alone. -/
def State.onCtl (f : Ctl → Ctl) (s : State) : State := { s with ctl := f s.ctl }

/-- Change the Command Port alone. -/
def State.onCmp (f : Cmp → Cmp) (s : State) : State := { s with cmp := f s.cmp }

/-- Change the input lines alone. -/
def State.onInp (f : Inp → Inp) (s : State) : State := { s with inp := f s.inp }

/-- Change the queue alone. -/
def State.withPending (q : List Instr) (s : State) : State := { s with pending := q }

/-- Count one more free value drawn. -/
def State.withDrawn (n : Nat) (s : State) : State := { s with drawn := n }

/-! ## Lists -/

/-- The element of least value; of several with the same least value, the first. -/
def leastFirst {α : Type} : List (Nat × α) → Option (Nat × α)
  | [] => none
  | x :: rest =>
    match leastFirst rest with
    | none => some x
    | some y => if x.1 ≤ y.1 then some x else some y

/-- Insert before the first element that `before` puts after it: keeps a list in the order of `before`. -/
def insertSorted {α : Type} (before : α → α → Bool) (x : α) : List α → List α
  | [] => [x]
  | y :: rest => if before x y then x :: y :: rest else y :: insertSorted before x rest

/-- The place of the first element that satisfies `p`. -/
def placeOf {α : Type} (p : α → Bool) : List α → Nat
  | [] => 0
  | x :: rest => if p x then 0 else placeOf p rest + 1

/-- The elements whose place, counted from `i`, satisfies `keep`. -/
def keepPlaces {α : Type} (keep : Nat → Bool) : Nat → List α → List α
  | _, [] => []
  | i, x :: rest => if keep i then x :: keepPlaces keep (i + 1) rest else keepPlaces keep (i + 1) rest

/-- A value clamped to a range (00, Arithmetic). -/
def clampTo (lo hi v : Nat) : Nat := if v < lo then lo else if hi < v then hi else v

/-- A timer less the time that has passed; it stays at 0 until its end is taken (log 3). -/
def timerLess (n : Nat) (t : Option Nat) : Option Nat := t.map (fun m => m - n)

/-! ## Tables -/

/-- State, check word and lock of a table. -/
def Nv.info (nv : Nv) (t : Table) : TableInfo :=
  match t with
  | .profile => nv.profileT
  | .stops => nv.stopsT
  | .car => nv.carT

/-- Change what is held for a table. -/
def Nv.setInfo (t : Table) (i : TableInfo) (nv : Nv) : Nv :=
  match t with
  | .profile => { nv with profileT := i }
  | .stops => { nv with stopsT := i }
  | .car => { nv with carT := i }

/-- The verification record of a table (R190). -/
def Ctl.verified (c : Ctl) (t : Table) : Option Verified :=
  match t with
  | .profile => c.profileV
  | .stops => c.stopsV
  | .car => c.carV

/-- Record a verification. -/
def Ctl.setVerified (t : Table) (v : Verified) (c : Ctl) : Ctl :=
  match t with
  | .profile => { c with profileV := some v }
  | .stops => { c with stopsV := some v }
  | .car => { c with carV := some v }

/-- The state of a table as the NVC holds it. -/
def State.tableState (s : State) (t : Table) : TableState := (s.nv.info t).state

/-- Whether a nonvolatile operation is in flight on the table (R2, R174). -/
def State.underOperation (s : State) (t : Table) : Bool :=
  match s.nvc.op with
  | none => false
  | some f => f.op.table = t

/-- Whether internal lookups into the table are answered: CLOSED, under no operation, and verified since the reset
(R2, R192). -/
def State.answersLookups (s : State) (t : Table) : Bool :=
  s.tableState t = .closed && !s.underOperation t && (s.ctl.verified t).isSome

/-- The car record as the blocks read it: live, or the fallback values while it is not CLOSED, is under an operation or
is not yet verified (R18, R192). -/
def State.cfg (s : State) : CarConfig :=
  if s.answersLookups .car then s.nv.config.getD fallbackConfig else fallbackConfig

/-- The profile as internal lookups see it (R2). -/
def State.lineSegments (s : State) : List Segment := if s.answersLookups .profile then s.nv.segments else []

/-- The stop table as internal lookups see it (R2). -/
def State.lineStops (s : State) : List StopRec := if s.answersLookups .stops then s.nv.stops else []

/-! ## Leaves and sides -/

/-- The side a leaf belongs to (R126). -/
def sideOfLeaf : Leaf → Side
  | .a1 => .a
  | .a2 => .a
  | .b1 => .b
  | .b2 => .b

def Dcu.leaf (d : Dcu) (l : Leaf) : LeafRec :=
  match l with
  | .a1 => d.a1
  | .a2 => d.a2
  | .b1 => d.b1
  | .b2 => d.b2

def Dcu.setLeaf (l : Leaf) (r : LeafRec) (d : Dcu) : Dcu :=
  match l with
  | .a1 => { d with a1 := r }
  | .a2 => { d with a2 := r }
  | .b1 => { d with b1 := r }
  | .b2 => { d with b2 := r }

def Dcu.side (d : Dcu) (x : Side) : SideRec :=
  match x with
  | .a => d.sideA
  | .b => d.sideB

def Dcu.setSide (x : Side) (r : SideRec) (d : Dcu) : Dcu :=
  match x with
  | .a => { d with sideA := r }
  | .b => { d with sideB := r }

/-- Change both leaves of a side. -/
def Dcu.mapSide (x : Side) (f : LeafRec → LeafRec) (d : Dcu) : Dcu :=
  match x with
  | .a => { d with a1 := f d.a1, a2 := f d.a2 }
  | .b => { d with b1 := f d.b1, b2 := f d.b2 }

/-- Change every leaf. -/
def Dcu.mapLeaves (f : LeafRec → LeafRec) (d : Dcu) : Dcu :=
  { d with a1 := f d.a1, a2 := f d.a2, b1 := f d.b1, b2 := f d.b2 }

def leafLevels (i : InputLevels) (l : Leaf) : LeafLevels :=
  match l with
  | .a1 => i.a1
  | .a2 => i.a2
  | .b1 => i.b1
  | .b2 => i.b2

def setLeafLevels (l : Leaf) (r : LeafLevels) (i : InputLevels) : InputLevels :=
  match l with
  | .a1 => { i with a1 := r }
  | .a2 => { i with a2 := r }
  | .b1 => { i with b1 := r }
  | .b2 => { i with b2 := r }

/-- The stroke position of a leaf at its last sample (R125). -/
def leafStroke (x : LeafStrokes) (l : Leaf) : Nat :=
  match l with
  | .a1 => x.a1
  | .a2 => x.a2
  | .b1 => x.b1
  | .b2 => x.b2

def setLeafStroke (l : Leaf) (n : Nat) (x : LeafStrokes) : LeafStrokes :=
  match l with
  | .a1 => { x with a1 := n }
  | .a2 => { x with a2 := n }
  | .b1 => { x with b1 := n }
  | .b2 => { x with b2 := n }

/-- The stroke position is past the part of the stroke that is watched for obstructions (R144). -/
def pastWatch (stroke : Nat) : Bool := 950 < stroke

/-- Where the car record places a leaf (R16). -/
def CarConfig.leaf (c : CarConfig) (l : Leaf) : LeafPlace :=
  match l with
  | .a1 => c.leafA1
  | .a2 => c.leafA2
  | .b1 => c.leafB1
  | .b2 => c.leafB2

/-! ## Band brakes -/

def Bcu.band (b : Bcu) (p : Band) : BandBrake :=
  match p with
  | .pb1 => b.pb1
  | .pb2 => b.pb2

def Bcu.setBand (p : Band) (x : BandBrake) (b : Bcu) : Bcu :=
  match p with
  | .pb1 => { b with pb1 := x }
  | .pb2 => { b with pb2 := x }

/-- The other band brake. -/
def otherBand : Band → Band
  | .pb1 => .pb2
  | .pb2 => .pb1

/-- A band brake as a test record names it. -/
def bandChannel : Band → Channel
  | .pb1 => .pb1
  | .pb2 => .pb2

def bandLevels (i : InputLevels) (p : Band) : BandLevels :=
  match p with
  | .pb1 => i.pb1
  | .pb2 => i.pb2

def setBandLevels (p : Band) (x : BandLevels) (i : InputLevels) : InputLevels :=
  match p with
  | .pb1 => { i with pb1 := x }
  | .pb2 => { i with pb2 := x }

/-- Shown applied: applied switch made, released switch open (R105). -/
def shownApplied (l : BandLevels) : Bool := l.applied && !l.released

/-- Shown released: released switch made, applied switch open (R105). -/
def shownReleased (l : BandLevels) : Bool := l.released && !l.applied

/-! ## Outputs that follow from the state -/

/-- The release valve of a band brake is energised in RELEASING and RELEASED (R105). -/
def State.valve (s : State) (p : Band) : Bool :=
  match (s.bcu.band p).state with
  | .releasing => true
  | .released => true
  | .applied => false
  | .applying => false
  | .fault => false

/-- The open drive of a leaf is on while it is OPENING or REVERSING (R135). -/
def State.openDrive (s : State) (l : Leaf) : Bool :=
  (s.dcu.leaf l).state = .opening || (s.dcu.leaf l).state = .reversing

/-- The close drive of a leaf is on while it is CLOSING or LOCKING (R135). -/
def State.closeDrive (s : State) (l : Leaf) : Bool :=
  (s.dcu.leaf l).state = .closing || (s.dcu.leaf l).state = .locking

/-- The transceiver's power output is on while it is ON (R150). -/
def State.radioPower (s : State) : Bool := s.vru.xcvr = .on

end Sys2Proof.Machine
end

