-- ==== Sys2Proof/Machine/Flags.lean ====
section
/-! DEFINITION. The attention causes and the ATTN line (R208, R209). -/

namespace Sys2Proof.Machine

/-- The seventeen attention causes, in the order of their bits (R208). -/
inductive Cause where
  | trip | intervene | advise | linkChange | authorityChange | restrictionChange | overflow | closureChange | doorEvent
  | obstructed | brakeFault | testDone | nvDone | positionFix | positionLost | unexpectedMarker | ambiguousMarker
  deriving DecidableEq, Repr

/-- The bit of a cause (R208). -/
def Cause.num : Cause → Nat
  | .trip => 0
  | .intervene => 1
  | .advise => 2
  | .linkChange => 3
  | .authorityChange => 4
  | .restrictionChange => 5
  | .overflow => 6
  | .closureChange => 7
  | .doorEvent => 8
  | .obstructed => 9
  | .brakeFault => 10
  | .testDone => 11
  | .nvDone => 12
  | .positionFix => 13
  | .positionLost => 14
  | .unexpectedMarker => 15
  | .ambiguousMarker => 16

/-- The cause set that holds one cause alone. -/
def Cause.bit (c : Cause) : BitVec 17 := BitVec.twoPow 17 c.num

/-- Set the cause set and the enable mask; the ATTN line is active while a cause is both latched and enabled (R208). -/
def Cmp.setCauses (causes mask : BitVec 17) (p : Cmp) : Cmp :=
  { p with causes := causes, mask := mask, attn := causes &&& mask != 0#17 }

/-- A block latches a cause (R208). -/
def latch (c : Cause) (s : State) : State :=
  s.onCmp (fun p => p.setCauses (p.causes ||| c.bit) p.mask)

/-- Latch a cause where a condition holds. -/
def latchIf (b : Bool) (c : Cause) (s : State) : State := if b then latch c s else s

/-- Clear the causes of a mask (R209). -/
def clearCauses (m : BitVec 17) (s : State) : State :=
  s.onCmp (fun p => p.setCauses (p.causes &&& ~~~m) p.mask)

/-- Set the enable mask (R209). -/
def setCauseMask (m : BitVec 17) (s : State) : State :=
  s.onCmp (fun p => p.setCauses p.causes m)

end Sys2Proof.Machine
end

