-- ==== Sys2Proof/Machine/Lookup.lean ====
section
/-! DEFINITION. The Line Record Store's lookups (R4 to R7, R13, R14) and the points of the car (R31, R126). -/

namespace Sys2Proof.Machine

/-! ## Profile -/

/-- The segments with their indexes and extents: each ends where the next begins, the last at its own end (R3, R4). -/
def placeFrom : Nat → List Segment → List Placed
  | _, [] => []
  | i, [g] => [{ index := i, lo := g.start, hi := g.endC, seg := g }]
  | i, g :: h :: rest => { index := i, lo := g.start, hi := some h.start, seg := g } :: placeFrom (i + 1) (h :: rest)

/-- Whether the extent contains a chainage; an absent end leaves it open (R6, R210). -/
def Placed.contains (p : Placed) (c : Int) : Bool :=
  p.lo ≤ c && (match p.hi with
    | none => true
    | some h => c < h)

/-- Whether the extent shares a chainage with [a, b) (R7). -/
def Placed.overlaps (p : Placed) (a b : Int) : Bool :=
  a < b && p.lo < b && (match p.hi with
    | none => true
    | some h => a < h && p.lo < h)

/-- Segment at chainage (R6). -/
def segmentAt (segs : List Segment) (c : Int) : Option Placed := (placeFrom 0 segs).find? (fun p => p.contains c)

/-- Segments over the span [a, b), in rising order of start (R7). -/
def segmentsOver (segs : List Segment) (a b : Int) : List Placed := (placeFrom 0 segs).filter (fun p => p.overlaps a b)

/-- The line, [first start, line end), of a table whose last record carries the line end (R4). -/
def lineSpan (segs : List Segment) : Option (Nat × Nat) :=
  match segs.head?, segs.getLast? with
  | some f, some l =>
    match l.endC with
    | none => none
    | some e => some (f.start, e)
  | _, _ => none

/-- The covered indication of R7: every chainage of [a, b) lies on the line. -/
def spanCovered (segs : List Segment) (a b : Int) : Bool :=
  b ≤ a || (match lineSpan segs with
    | none => false
    | some (f, e) => f ≤ a && b ≤ e)

/-- The line as the tables stand: none while the profile table is not CLOSED (R4, R37, R50, R63; log 22). -/
def State.line (s : State) : Option (Nat × Nat) :=
  if s.tableState .profile = .closed then lineSpan s.nv.segments else none

/-- Whether a chainage lies on the line (R4). -/
def State.onLine (s : State) (c : Int) : Bool :=
  match s.line with
  | none => false
  | some (f, e) => f ≤ c && c < e

/-! ## Stops -/

/-- Whether the stop's platform lies on the side (R9). -/
def Sides.includes (x : Sides) (side : Side) : Bool :=
  match x, side with
  | .ab, _ => true
  | .a, .a => true
  | .b, .b => true
  | .a, .b => false
  | .b, .a => false

/-- Whether a window shares a chainage with the closed span [a, b] (R13). -/
def Window.overlaps (w : Window) (a b : Int) : Bool := w.lo ≤ b && a < w.hi

/-- The answers of the platform lookup (R13). -/
inductive Platform where
  | none
  | closed (p : StopRec)
  | found (p : StopRec)
  deriving DecidableEq, Repr

/-- The platform lookup: side, worst-case span [a, b] and uncertainty (R13). -/
def platformLookup (stops : List StopRec) (closure : List Nat) (side : Side) (a b : Int) (u : Nat) : Platform :=
  let fit := stops.filter (fun p => p.windows.any (fun w => w.overlaps a b) && p.sides.includes side && u ≤ p.tolerance)
  match fit.find? (fun p => !closure.contains p.number) with
  | some p => .found p
  | none =>
    match fit.head? with
    | some p => .closed p
    | none => .none

/-- The marker lookup: the stops whose marker lies within `radius` of `r`, each with its marker chainage (R14). -/
def markerLookup (stops : List StopRec) (r : Int) (radius : Nat) : List (Nat × Nat) :=
  stops.filterMap (fun p =>
    match p.marker with
    | none => none
    | some m => if ((m : Int) - r).natAbs ≤ radius then some (p.number, m) else none)

/-! ## Points of the car -/

/-- C_high from the fine position (R30). -/
def Pou.cHigh (p : Pou) : Nat := p.fine / 100

/-- C_low of a car of length `len` (R31). -/
def lowEnd (cHigh len : Nat) : Int := cHigh - len

/-- The pinion point, at its nominal place (R31). -/
def State.pinionPoint (s : State) : Int := lowEnd s.pou.cHigh s.cfg.carLength + s.cfg.pinionOffset

/-- The reader point, at its nominal place (R31). -/
def State.readerPoint (s : State) : Int := lowEnd s.pou.cHigh s.cfg.carLength + s.cfg.readerOffset

/-- The lower end of the worst-case span, from the last position update (R31, R61, R76). -/
def State.spanLow (s : State) : Int := lowEnd s.pou.last.cHigh s.cfg.carLength - s.pou.last.u

/-- The upper end of the worst-case span, from the last position update (R31, R61, R76). -/
def State.spanHigh (s : State) : Int := s.pou.last.cHigh + s.pou.last.u

/-- The worst-case front (R31). -/
def State.front (s : State) : Int :=
  match s.aut.selected with
  | .up => s.spanHigh
  | .down => s.spanLow

/-- The worst-case rear (R31). -/
def State.rear (s : State) : Int :=
  match s.aut.selected with
  | .up => s.spanLow
  | .down => s.spanHigh

/-- Whether the worst-case span, read from the POU as it stands, touches rack (R34, R100). -/
def State.touchesRack (s : State) : Bool :=
  let lo := lowEnd s.pou.cHigh s.cfg.carLength - s.pou.u
  let hi : Int := s.pou.cHigh + s.pou.u
  (segmentsOver s.lineSegments lo (hi + 1)).any (fun p => p.seg.kind ≠ .adhesion)

/-- The segment at the pinion point (R39, R49). -/
def State.pinionSegment (s : State) : Option Placed := segmentAt s.lineSegments s.pinionPoint

/-- Engagement as published and reported (R34). -/
def Engagement.state : Engagement → EngState
  | .disengaged => .disengaged
  | .seeking _ => .seeking
  | .engaged => .engaged

/-- Whether the pinion is in mesh, as the POU holds it. -/
def State.engaged (s : State) : Bool := s.pou.engagement.state = .engaged

/-- The direction of motion (R28). -/
def Pou.motion (p : Pou) : Motion :=
  if p.standstill then .none
  else match p.lastDir with
    | .up => .up
    | .down => .down

/-- The worst-case span of a leaf lies wholly inside a window (R126). -/
def leafInside (cHigh u len : Nat) (l : LeafPlace) (w : Window) : Bool :=
  (w.lo : Int) ≤ lowEnd cHigh len + l.offset - u && lowEnd cHigh len + l.offset + l.width + u < w.hi

end Sys2Proof.Machine
end

