-- ==== Sys2Proof/Machine/Doors.lean ====
section
/-! DEFINITION. The door leaves: their states and timers (R124, R130 to R137), the warning outputs, release stops and the
door summary (R135, R139, R147). -/

namespace Sys2Proof.Machine

/-- A leaf between its release and its locking (R127, R139). -/
def LeafState.inCycle : LeafState → Bool
  | .released => true
  | .opening => true
  | .opened => true
  | .warning => true
  | .closing => true
  | .reversing => true
  | .locking => true
  | .locked => false
  | .fault => false
  | .isolated => false

/-- A leaf that counts as secure (R147). -/
def LeafState.isSecure : LeafState → Bool
  | .locked => true
  | .isolated => true
  | .released => false
  | .opening => false
  | .opened => false
  | .warning => false
  | .closing => false
  | .reversing => false
  | .locking => false
  | .fault => false

/-- A leaf that makes its side's warning output active (R135). -/
def LeafState.warns : LeafState → Bool
  | .warning => true
  | .closing => true
  | .reversing => true
  | .locked => false
  | .released => false
  | .opening => false
  | .opened => false
  | .locking => false
  | .fault => false
  | .isolated => false

/-! ## Movements of one leaf -/

/-- LOCKED: count and hold-open mark cleared, the obstruction record kept (R132, R146). -/
def LeafRec.lockIt (l : LeafRec) : LeafRec :=
  { l with state := .locked, timer := none, attempts := 0, holdOpen := false, closeAsked := false, candidate := none,
           lockSeen := false }

/-- FAULT: drives and timer stop, candidate, count and hold-open mark are cleared (R134). -/
def LeafRec.toFault (l : LeafRec) : LeafRec :=
  { l with state := .fault, timer := none, attempts := 0, holdOpen := false, closeAsked := false, candidate := none,
           lockSeen := false }

/-- ISOLATED (R142); the lock switch is watched from the first moment it is seen made (R141). -/
def LeafRec.isolate (lockMade : Bool) (l : LeafRec) : LeafRec :=
  { l with state := .isolated, timer := none, attempts := 0, holdOpen := false, closeAsked := false, candidate := none,
           lockSeen := lockMade }

/-- OPENING with its 4 s open stroke timer (R130, R131). -/
def LeafRec.toOpening (l : LeafRec) : LeafRec := { l with state := .opening, timer := some 4000 }

/-- REVERSING with its 4 s open stroke timer, the candidate dropped (R145). -/
def LeafRec.toReversing (l : LeafRec) : LeafRec := { l with state := .reversing, timer := some 4000, candidate := none }

/-- CLOSING with its 5 s close stroke timer (R132). -/
def LeafRec.toClosing (l : LeafRec) : LeafRec := { l with state := .closing, timer := some 5000, candidate := none }

/-- WARNING for `lead` seconds; a warn lead of 0 passes the leaf to CLOSING at once (R132). -/
def LeafRec.toWarning (lead : Nat) (l : LeafRec) : LeafRec :=
  if lead = 0 then l.toClosing else { l with state := .warning, timer := some (lead * 1000) }

/-- LOCKING with its 1.5 s lock timer, any candidate dropped (R132). The leaf waits for the lock switch to be brought made, also where its
level stood made before (log 6). -/
def LeafRec.toLocking (l : LeafRec) : LeafRec := { l with state := .locking, timer := some 1500, candidate := none }

/-- OPEN with its dwell of `dwell` seconds (R130, R133). -/
def LeafRec.toDwell (dwell : Nat) (l : LeafRec) : LeafRec := { l with state := .opened, timer := some (dwell * 1000) }

/-- OPEN with no dwell (R131, R133). -/
def LeafRec.toWaiting (l : LeafRec) : LeafRec := { l with state := .opened, timer := none }

/-- Released: RELEASED in PASSENGER mode, OPENING at once in CREW mode (R127, R131). -/
def LeafRec.release (mode : ReleaseMode) (l : LeafRec) : LeafRec :=
  match mode with
  | .passenger => { l with state := .released, timer := none }
  | .crew => l.toOpening

/-- A RELEASED leaf returns to LOCKED; any other is left as it is (R136 to R139). -/
def LeafRec.relock (l : LeafRec) : LeafRec := if l.state = .released then l.lockIt else l

/-- What a leaf does on reaching OPEN, from REVERSING or from OPENING: the cases of R133 in their order. The wait of case 2 is until a
DOOR_CLOSE; one that reached the leaf while it was CLOSING or REVERSING ends it as it begins (R137, R140; DEDUCED, log 39). -/
def LeafRec.reachOpen (side : SideRec) (settings : Settings) (l : LeafRec) : LeafRec :=
  let o := { l with closeAsked := false }
  if l.state = .reversing && l.holdOpen then o.toWaiting
  else if l.state = .reversing && side.mode = .crew && !l.closeAsked then o.toWaiting
  else if side.closingOut then o.toWarning settings.warnLead
  else match side.mode with
    | .passenger => o.toDwell settings.openDwell
    | .crew => o.toWaiting

/-- What DOOR_CLOSE does to a leaf of the side (R137). A CLOSING or REVERSING leaf keeps that the close has reached it (log 39). -/
def LeafRec.closeOut (lead : Nat) (l : LeafRec) : LeafRec :=
  let l := { l with attempts := 0, holdOpen := false }
  match l.state with
  | .released => l.lockIt
  | .opened => l.toWarning lead
  | .opening => l
  | .reversing => { l with closeAsked := true }
  | .warning => l
  | .closing => { l with closeAsked := true }
  | .locking => l
  | .locked => l
  | .isolated => l
  | .fault => l

/-- What DOOR_WITHDRAW does to a leaf of a side in PASSENGER mode (R136). -/
def LeafRec.withdraw (lead : Nat) (l : LeafRec) : LeafRec :=
  match l.state with
  | .released => l.lockIt
  | .opened => if l.timer.isSome then l.toWarning lead else l
  | .opening => l
  | .reversing => l
  | .warning => l
  | .closing => l
  | .locking => l
  | .locked => l
  | .isolated => l
  | .fault => l

/-! ## A side -/

/-- DOOR_CLOSE of a side (R137). -/
def Dcu.closeSide (x : Side) (lead : Nat) (d : Dcu) : Dcu :=
  (d.setSide x { d.side x with closingOut := true }).mapSide x (fun l => l.closeOut lead)

/-- DOOR_WITHDRAW of a side: in CREW mode it acts as DOOR_CLOSE (R136). -/
def Dcu.withdrawSide (x : Side) (lead : Nat) (d : Dcu) : Dcu :=
  match (d.side x).mode with
  | .crew => d.closeSide x lead
  | .passenger => (d.setSide x { d.side x with closingOut := true }).mapSide x (fun l => l.withdraw lead)

/-! ## Outputs -/

/-- Warning output and release stop of a side as its two leaves leave them (R135, R139). -/
def SideRec.refresh (l m : LeafRec) (x : SideRec) : SideRec :=
  { x with warning := l.state.warns || m.state.warns,
           stop := if l.state.inCycle || m.state.inCycle then x.stop else none }

/-- The warning outputs, release stops and door summary as the leaves leave them (R135, R139, R147). -/
def Dcu.refresh (d : Dcu) : Dcu :=
  { d with sideA := d.sideA.refresh d.a1 d.a2, sideB := d.sideB.refresh d.b1 d.b2,
           secure := d.a1.state.isSecure && d.a2.state.isSecure && d.b1.state.isSecure && d.b2.state.isSecure }

/-- Bring the outputs up to the leaf states; a change of the door summary latches DOOR_EVENT (R147). -/
def refreshDoors (s : State) : State :=
  latchIf (s.dcu.refresh.secure != s.dcu.secure) .doorEvent (s.onDcu Dcu.refresh)

/-- Every RELEASED leaf of either side returns to LOCKED (R138). -/
def relockReleased (s : State) : State :=
  refreshDoors (s.onDcu (fun d => d.mapLeaves LeafRec.relock))

end Sys2Proof.Machine
end

