-- ==== Sys2Proof/Machine/Brakes.lean ====
section
/-! DEFINITION. The Brake Control Unit: one evaluation of demands, holding, release permission and traction (R100 to R115),
the band-brake state machine (R105), and the progress and end of a brake test step (R116 to R122). -/

namespace Sys2Proof.Machine

/-! ## What an evaluation reads (R100) -/

/-- The readings of one evaluation: engagement, standstill and the worst-case span from the POU as they stand, the
supervision state and v_perm as handed over, the door summary, the mode, and the brake inputs. -/
structure Readings where
  mode       : Mode
  secure     : Bool
  sup        : SupState
  vPerm      : Nat
  standstill : Bool
  engaged    : Bool
  onRack     : Bool
  pressure   : Nat
  pb1        : BandLevels
  pb2        : BandLevels
  deriving DecidableEq, Repr

def State.readings (s : State) : Readings where
  mode := s.ctl.mode
  secure := s.dcu.secure
  sup := s.ssu.state
  vPerm := s.ssu.vPerm
  standstill := s.pou.standstill
  engaged := s.engaged
  onRack := s.touchesRack
  pressure := s.inp.pressure
  pb1 := s.inp.levels.pb1
  pb2 := s.inp.levels.pb2

/-- Where the bands are needed: ENGAGED, or the worst-case span touching rack (R109, R110, R115). -/
def Readings.needsBands (r : Readings) : Bool := r.engaged || r.onRack

/-! ## Levels and timers -/

/-- The step that runs (R116). -/
def TestState.running : TestState → Option Nat
  | .running1 => some 1
  | .running2 => some 2
  | .running3 => some 3
  | .running4 => some 4
  | .running5 => some 5
  | .notDone => none
  | .step1Passed => none
  | .step2Passed => none
  | .step3Passed => none
  | .step4Passed => none
  | .passed => none
  | .passedDegraded => none
  | .failed => none

/-- The order of the WB levels (R103). -/
def WbLevel.rank : WbLevel → Nat
  | .off => 0
  | .hold => 1
  | .service => 2
  | .full => 3

/-- The higher of two WB levels. -/
def WbLevel.max (x y : WbLevel) : WbLevel := if x.rank ≤ y.rank then y else x

/-- The pressure is in band (R104). -/
def WbLevel.inBand (x : WbLevel) (pressure : Nat) : Bool :=
  match x with
  | .off => pressure ≤ 10
  | .hold => 30 ≤ pressure && pressure ≤ 50
  | .service => 60 ≤ pressure && pressure ≤ 80
  | .full => 90 ≤ pressure && pressure ≤ 100

/-! ## Release permission and driving -/

/-- The numbers of the conditions of release permission that fail (R110). -/
def Bcu.failing (r : Readings) (b : Bcu) : List Nat :=
  (if r.mode = .service || r.mode = .depot then [] else [1]) ++
  (if b.test = .passed || b.test = .passedDegraded then [] else [2]) ++
  (if r.secure then [] else [3]) ++
  (if r.sup = .clear || r.sup = .advise then [] else [4]) ++
  (if 0 < r.vPerm then [] else [5]) ++
  (if b.wbFault then [6] else []) ++
  (if (b.pb1.state = .fault || b.pb2.state = .fault) && r.needsBands then [7] else [])

/-- Release permission, the drive request, the traction line, holding commanded and the band demands (R106, R108, R110,
R112, R115). -/
def Bcu.evalDrive (r : Readings) (b : Bcu) : Bcu :=
  let perm := (b.failing r).isEmpty
  let drive := b.driveReq && !(r.standstill && !perm)
  let driving := perm && drive && b.test.running.isNone
  let begins := driving && !b.traction
  let hold := if begins then false else b.holdCmd || (r.standstill && (!perm || !drive))
  let apply := (hold && !b.holdCmd) || (r.sup = .trip && r.needsBands)
  let demand (d : BandDemand) : BandDemand := if begins then .release else if apply then .apply else d
  { b with permission := perm, driveReq := drive, traction := driving, holdCmd := hold,
           pb1 := { b.pb1 with demand := demand b.pb1.demand }, pb2 := { b.pb2 with demand := demand b.pb2.demand } }

/-! ## Wheel brake -/

/-- The highest level asked for (R103, R114, R115, R118 to R121). -/
def Bcu.wbAsked (r : Readings) (b : Bcu) : WbLevel :=
  let byHolding : WbLevel := if b.holdCmd then .hold else .off
  let byIntervene : WbLevel := if r.sup = .intervene && !r.engaged then .service else .off
  let byTrip : WbLevel := if r.sup = .trip then (if r.engaged then .hold else .full) else .off
  let byTest : WbLevel :=
    match b.test.running with
    | none => .off
    | some n => if n = 4 && !b.step4Hold then .full else .hold
  (byHolding.max byIntervene).max (byTrip.max byTest)

/-- The demand, the follow status and its timer (R103, R104). The pressure is compared with the band at each evaluation
(log 25). -/
def Bcu.evalWb (r : Readings) (b : Bcu) : Bcu :=
  let want := b.wbAsked r
  let b := if want = b.wbDemand then b
           else { b with wbDemand := want, follow := .following, followTimer := some 1500 }
  match b.follow with
  | .following => if b.wbDemand.inBand r.pressure then { b with follow := .confirmed, followTimer := none } else b
  | .confirmed =>
    if b.wbDemand.inBand r.pressure then b else { b with follow := .following, followTimer := some 1500 }

/-! ## Band brakes -/

/-- RELEASING, and RELEASED at once where the brake is shown released (R105). -/
def BandBrake.startRelease (l : BandLevels) (x : BandBrake) : BandBrake :=
  if shownReleased l then { x with state := .released, timer := none }
  else { x with state := .releasing, timer := some 1200 }

/-- APPLYING, and APPLIED at once where the brake is shown applied (R105). -/
def BandBrake.startApply (l : BandLevels) (x : BandBrake) : BandBrake :=
  if shownApplied l then { x with state := .applied, timer := none }
  else { x with state := .applying, timer := some 800 }

/-- The state machine of a band brake as its demand and switches move it; its faults are taken by their own events
(R105). -/
def BandBrake.follow (l : BandLevels) (x : BandBrake) : BandBrake :=
  match x.state with
  | .applied => if x.demand = .release then x.startRelease l else x
  | .releasing =>
    if x.demand = .apply then x.startApply l
    else if shownReleased l then { x with state := .released, timer := none } else x
  | .released => if x.demand = .apply then x.startApply l else x
  | .applying =>
    if shownApplied l then
      let y : BandBrake := { x with state := .applied, timer := none }
      if x.demand = .release then y.startRelease l else y
    else x
  | .fault => x

/-- Both band brakes follow their demands (R105). -/
def Bcu.evalBands (r : Readings) (b : Bcu) : Bcu :=
  { b with pb1 := b.pb1.follow r.pb1, pb2 := b.pb2.follow r.pb2 }

/-! ## Electric brake and holding -/

/-- The EB demand (R102). -/
def Bcu.ebAsked (r : Readings) (b : Bcu) : Bool :=
  r.sup = .trip || (r.sup = .intervene && (r.engaged || b.ebAvail))

/-- Holding is confirmed (R109). -/
def Bcu.holds (r : Readings) (b : Bcu) : Bool :=
  b.wbDemand ≠ .off && b.follow = .confirmed &&
    (!r.needsBands || (b.pb1.state = .applied && b.pb2.state = .applied))

/-- The EB demand and holding confirmed. -/
def Bcu.evalOut (r : Readings) (b : Bcu) : Bcu := { b with ebDemand := b.ebAsked r, holdConf := b.holds r }

/-- One evaluation of the BCU (R100). -/
def Bcu.evaluate (r : Readings) (b : Bcu) : Bcu := (((b.evalDrive r).evalWb r).evalBands r).evalOut r

/-- The rollback accumulator set to 0, and its report re-armed (R47, R48). -/
def Pou.zeroRollback (p : Pou) : Pou := { p with rollback := 0, rollbackReported := false }

/-- Hand a change of holding confirmed to the DCU and the POU: lost, RELEASED leaves relock (R138); gained at
standstill, the rollback accumulator is zeroed (R47). -/
def handHolding (before : Bool) (s : State) : State :=
  if before && !s.bcu.holdConf then relockReleased s
  else if !before && s.bcu.holdConf && s.pou.standstill then s.onPou Pou.zeroRollback
  else s

/-- The demands, holding, permission and traction worked out once, with the change of holding handed on. -/
def evalPass (s : State) : State :=
  handHolding s.bcu.holdConf (s.onBcu (fun b => b.evaluate s.readings))

/-- One evaluation with its hand-overs: leaves that relock with the holding lost may make the doors SECURE, which is an event of R100
of its own (R100, R138). -/
def evalOnce (s : State) : State :=
  let t := evalPass s
  if t.dcu.secure = s.dcu.secure then t else evalPass t

/-! ## The brake test -/

/-- A band brake holds, for the test (R117). -/
def BandBrake.testHolds (l : BandLevels) (x : BandBrake) : Bool :=
  x.state = .applied || (x.state = .fault && shownApplied l)

/-- The WB holds, for the test (R117). -/
def wbTestHolds (pressure : Nat) : Bool := 35 ≤ pressure

/-- The WB fault set and BRAKE_FAULT latched (R104, R118, R119). -/
def setWbFault (s : State) : State := latch .brakeFault (s.onBcu (fun b => { b with wbFault := true }))

/-- The end of a step: test state, test record, TEST_DONE (R116). -/
def endStep (n : Nat) (outcome : TestOutcome) (reason : TestReason) (st : TestState) (s : State) : State :=
  latch .testDone (s.onBcu (fun b =>
    { b with test := st, testRec := some { step := n, outcome := outcome, reason := reason }, stepTimer := none,
             step4Hold := false }))

/-- The band brake a step cycles (R119). -/
def cycledBand (n : Nat) : Option Band :=
  match n with
  | 2 => some .pb1
  | 3 => some .pb2
  | _ => none

/-- The demand of the brake the step cycles is set to APPLY (R106, R119, R122). -/
def Bcu.applyCycled (n : Nat) (b : Bcu) : Bcu :=
  match cycledBand n with
  | none => b
  | some p => b.setBand p { b.band p with demand := .apply }

/-- A step fails (R118 to R120, R122). -/
def failStep (n : Nat) (reason : TestReason) (s : State) : State :=
  endStep n .failed reason .failed (s.onBcu (fun b => b.applyCycled n))

/-- A running step is aborted; without one nothing changes (R122). -/
def abortTest (reason : TestReason) (s : State) : State :=
  match s.bcu.test.running with
  | none => s
  | some n => endStep n .aborted reason .failed (s.onBcu (fun b => b.applyCycled n))

/-- Step 1 passes when both bands and the WB hold (R118). -/
def progress1 (s : State) : State :=
  if s.bcu.pb1.testHolds s.inp.levels.pb1 && s.bcu.pb2.testHolds s.inp.levels.pb2 && wbTestHolds s.inp.pressure then
    endStep 1 .passed .none .step1Passed s
  else s

/-- Steps 2 and 3: the other band and the WB must hold; RELEASED turns the demand to APPLY; APPLIED passes (R119). DEDUCED (log 52): where
at one evaluation neither holds, the record names the band and the WB fault stands as it was. -/
def progressCycle (n : Nat) (p : Band) (next : TestState) (s : State) : State :=
  let q := otherBand p
  if !(s.bcu.band q).testHolds (bandLevels s.inp.levels q) then failStep n (.holdLost (bandChannel q)) s
  else if !wbTestHolds s.inp.pressure then failStep n (.holdLost .wb) (setWbFault s)
  else if (s.bcu.band p).state = .released then
    s.onBcu (fun b => b.setBand p { b.band p with demand := .apply })
  else if (s.bcu.band p).state = .applied && (s.bcu.band p).demand = .apply then endStep n .passed .none next s
  else s

/-- Step 4: both bands must hold; FULL confirmed turns the ask to HOLD; HOLD confirmed passes and clears the WB fault
(R120). DEDUCED (log 53): where neither band holds at one evaluation, the record names PB1. -/
def progress4 (s : State) : State :=
  if !s.bcu.pb1.testHolds s.inp.levels.pb1 then failStep 4 (.holdLost .pb1) s
  else if !s.bcu.pb2.testHolds s.inp.levels.pb2 then failStep 4 (.holdLost .pb2) s
  else if s.bcu.follow = .confirmed && s.bcu.wbDemand = .full && !s.bcu.step4Hold then
    s.onBcu (fun b => { b with step4Hold := true })
  else if s.bcu.follow = .confirmed && s.bcu.wbDemand = .hold && s.bcu.step4Hold then
    endStep 4 .passed .none .step4Passed (s.onBcu (fun b => { b with wbFault := false }))
  else s

/-- What the channels do for the step that runs (R118 to R121). -/
def testProgress (s : State) : State :=
  match s.bcu.test with
  | .running1 => progress1 s
  | .running2 => progressCycle 2 .pb1 .step2Passed s
  | .running3 => progressCycle 3 .pb2 .step3Passed s
  | .running4 => progress4 s
  | .running5 => s
  | .notDone => s
  | .step1Passed => s
  | .step2Passed => s
  | .step3Passed => s
  | .step4Passed => s
  | .passed => s
  | .passedDegraded => s
  | .failed => s

/-- The BCU re-evaluates (R100): the channels, then the running step, then what the step changed. -/
def bcuEval (s : State) : State := evalOnce (testProgress (evalOnce s))

/-! ## What the doors bring to the brakes -/

/-- After a change of leaf states: the outputs follow, and a change of the door summary is handed to the BCU, where
NOT_SECURE aborts a running step (R100, R122, R147). -/
def doorsSettled (s : State) : State :=
  let t := refreshDoors s
  if t.dcu.secure = s.dcu.secure then t
  else if t.dcu.secure then bcuEval t
  else bcuEval (abortTest .abortDoors t)

/-- Withdraw one side (R136). -/
def withdrawSide (x : Side) (s : State) : State :=
  doorsSettled (s.onDcu (fun d => d.withdrawSide x s.lrs.settings.warnLead))

/-- Withdraw both sides, as the DCU does by itself (R138). -/
def withdrawBoth (s : State) : State :=
  doorsSettled (s.onDcu (fun d =>
    (d.withdrawSide .a s.lrs.settings.warnLead).withdrawSide .b s.lrs.settings.warnLead))

end Sys2Proof.Machine
end

