-- ==== Sys2Proof/Machine/Supervision.lean ====
section
/-! DEFINITION. What the Speed Supervision Unit computes (R76 to R90): over-body limit, targets, braking curves, mode caps, the
permitted speed and the supervision record. Nothing here changes the state. -/

namespace Sys2Proof.Machine

/-! ## Over-body limit (R77, R78) -/

/-- The static limit for a direction of travel (R3, R77). -/
def Segment.limit (g : Segment) (d : Direction) : Nat :=
  match d with
  | .up => g.limitUp
  | .down => g.limitDown

/-- Whether the restriction binds travel in a direction (R50). -/
def Applies.binds (a : Applies) (d : Direction) : Bool :=
  match a, d with
  | .both, _ => true
  | .up, .up => true
  | .down, .down => true
  | .up, .down => false
  | .down, .up => false

/-- The lower chainage of an authority record's extent (R60). -/
def Authority.lo (r : Authority) : Nat :=
  match r.dir with
  | .up => r.start
  | .down => r.stop

/-- The upper, open chainage of an authority record's extent (R60). -/
def Authority.hi (r : Authority) : Nat :=
  match r.dir with
  | .up => r.stop
  | .down => r.start

/-- Whether [lo, hi) shares a chainage with the worst-case span, both ends of which belong to it (R31, R77). -/
def State.underCar (s : State) (lo hi : Nat) : Bool := lo < hi && (lo : Int) ≤ s.spanHigh && s.spanLow < hi

/-- The list in travel order: rising chainage for UP, falling for DOWN (R78). -/
def travelOrder {α : Type} (d : Direction) (l : List α) : List α :=
  match d with
  | .up => l
  | .down => l.reverse

/-- The contributors to the over-body limit, in the order in which equal values are named (R77, R78). -/
def State.contributors (s : State) : List (Nat × Source) :=
  let d := s.aut.selected
  (travelOrder d (segmentsOver s.lineSegments s.spanLow (s.spanHigh + 1))).map
      (fun p => (p.seg.limit d, Source.segment p.index)) ++
  (s.lrs.restrictions.filter (fun r => s.underCar r.start r.stop && r.applies.binds d)).map
      (fun r => (r.limit, Source.restriction r.id)) ++
  (s.lrs.overflow.toList.filter (fun o => s.underCar o.start o.stop)).map (fun o => (o.limit, Source.overflow)) ++
  (s.aut.chain.filter (fun r => s.underCar r.lo r.hi)).map (fun r => (r.cap, Source.authority r.id))

/-- The over-body limit with its source; none when nothing overlaps the span (R77). -/
def State.overBody (s : State) : Option (Nat × Source) := leastFirst s.contributors

/-! ## Targets (R79, R80) -/

/-- The near boundary and distance of a record ahead; none when it is not ahead (R79). -/
def State.ahead (s : State) (lo hi : Nat) : Option (Nat × Nat) :=
  match s.aut.selected with
  | .up => if s.spanHigh < lo then some (lo, (lo - s.spanHigh).toNat) else none
  | .down => if (hi : Int) ≤ s.spanLow then some (hi, (s.spanLow - hi).toNat) else none

/-- The far end of the chain (R60). -/
def Aut.farEnd (a : Aut) : Option Nat := a.chain.getLast?.map Authority.stop

/-- A near boundary at or before the far end in the travel direction (R79). -/
def State.withinChain (s : State) (far near : Nat) : Bool :=
  match s.aut.selected with
  | .up => near ≤ far
  | .down => far ≤ near

/-- The brake figure A of a segment (R81). -/
def State.brakeFigure (s : State) (k : SegKind) : Nat :=
  if !s.bcu.ebAvail then s.cfg.aSvcDegr
  else match k with
    | .adhesion => s.cfg.aSvcAdh
    | .transition => s.cfg.aSvcRack
    | .rack => s.cfg.aSvcRack

/-- The effective gradient for a direction of travel (R81). -/
def effGradient (d : Direction) (g : Int) : Int :=
  match d with
  | .up => g
  | .down => -g

/-- The term of a segment: A plus the gravity part, floored (R81). -/
def State.term (s : State) (g : Segment) : Int :=
  s.brakeFigure g.kind + (effGradient s.aut.selected g.gradient * 981).fdiv 1000

/-- The lowest of a list of terms. -/
def leastInt : List Int → Option Int
  | [] => none
  | x :: rest =>
    match leastInt rest with
    | none => some x
    | some y => if x ≤ y then some x else some y

/-- A term clamped to 0 .. 500 (R82). -/
def clampDecel (t : Int) : Nat := if t < 0 then 0 else if 500 < t then 500 else t.toNat

/-- The effective deceleration for a target at `near` (R82). -/
def State.effDecel (s : State) (near : Nat) : Nat :=
  let a := if s.front ≤ near then s.front else (near : Int)
  let b := if s.front ≤ near then (near : Int) else s.front
  match leastInt ((segmentsOver s.lineSegments a b).map (fun p => s.term p.seg)) with
  | none => 0
  | some t => clampDecel t

/-- The integer square root by bits, from bit k - 1 down (00, Arithmetic). -/
def isqrtFrom : Nat → Nat → Nat → Nat
  | 0, _, a => a
  | k + 1, n, a => if (a + 2 ^ k) * (a + 2 ^ k) ≤ n then isqrtFrom k n (a + 2 ^ k) else isqrtFrom k n a

/-- The integer square root: the largest whole number whose square does not exceed n. -/
def isqrt (n : Nat) : Nat := isqrtFrom (n.log2 / 2 + 1) n 0

/-- The braking curve for a target ahead (R83, R84). -/
def brakingCurve (vTarget aEff distance buildUp : Nat) : Nat :=
  if distance ≤ buildUp then vTarget
  else
    let product := 2 * aEff * (distance - buildUp)
    if 4000000 < product then 2000 else isqrt (vTarget * vTarget + product)

/-- A target: where it begins, how far it is, the speed it allows now and what it is (R79 to R84, R88). -/
structure Target where
  near     : Nat
  distance : Nat
  curve    : Nat
  aEff     : Option Nat
  source   : Source
  deriving DecidableEq, Repr

/-- The target of a record over [lo, hi) with speed `v`, where it is ahead and within the chain. -/
def State.targetOf (s : State) (far lo hi v : Nat) (src : Source) : Option Target :=
  match s.ahead lo hi with
  | none => none
  | some (near, dist) =>
    if s.withinChain far near then
      let a := s.effDecel near
      some { near := near, distance := dist, curve := brakingCurve v a dist s.cfg.buildUp, aEff := some a, source := src }
    else none

/-- The far end of the chain as a target of speed 0 (R80). -/
def State.farTarget (s : State) (far : Nat) : Target :=
  let isAhead : Bool :=
    match s.aut.selected with
    | .up => s.spanHigh < far
    | .down => (far : Int) < s.spanLow
  if isAhead then
    let a := s.effDecel far
    let dist := ((far : Int) - s.front).natAbs
    { near := far, distance := dist, curve := brakingCurve 0 a dist s.cfg.buildUp, aEff := some a,
      source := .authorityEnd }
  else { near := far, distance := 0, curve := 0, aEff := none, source := .authorityEnd }

/-- The targets, in the kind order of R78 with the far end last: none outside SERVICE or with the chain empty (R79). -/
def State.targets (s : State) : List Target :=
  match s.ctl.mode, s.aut.farEnd with
  | .service, some far =>
    let d := s.aut.selected
    let body := (s.overBody.map Prod.fst).getD 2000
    (travelOrder d (placeFrom 0 s.lineSegments)).filterMap (fun p =>
        match p.hi with
        | none => none
        | some h => if p.seg.limit d < body then s.targetOf far p.lo h (p.seg.limit d) (.segment p.index) else none) ++
    (s.lrs.restrictions.filter (fun r => r.applies.binds d)).filterMap
        (fun r => s.targetOf far r.start r.stop r.limit (.restriction r.id)) ++
    s.lrs.overflow.toList.filterMap (fun o => s.targetOf far o.start o.stop o.limit .overflow) ++
    s.aut.chain.filterMap (fun r => s.targetOf far r.lo r.hi r.cap (.authority r.id)) ++
    [s.farTarget far]
  | _, _ => []

/-- The governing target: the lowest curve; of equal curves the nearest; of equal distances the first named (R88). -/
def governing : List Target → Option Target
  | [] => none
  | x :: rest =>
    match governing rest with
    | none => some x
    | some y =>
      if x.curve < y.curve || (x.curve = y.curve && x.distance ≤ y.distance) then some x else some y

/-! ## Mode caps (R85, R86) -/

/-- The caps in force, in the order of R85. -/
def State.capsInForce (s : State) : List (Nat × Cap) :=
  let service := s.ctl.mode = .service
  (if service || s.ctl.mode = .depot then [] else [(0, Cap.mode)]) ++
  (if service && s.pou.last.posState = .unknown then [(0, Cap.unknownPosition)] else []) ++
  (if service && s.aut.chain.isEmpty then [(0, Cap.noAuthority)] else []) ++
  (if service && s.pou.last.posState = .lost then [(s.cfg.searchSpeed, Cap.search)] else []) ++
  (if service && s.vru.link = .lost then [(s.cfg.lostLinkSpeed, Cap.lostLink)] else []) ++
  (if s.ctl.mode = .depot then [(s.cfg.shuntSpeed, Cap.shunt)] else []) ++
  [(2000, Cap.ceiling)]

/-- The mode cap that takes part in the permitted speed (R86). -/
def State.modeCap (s : State) : Nat × Cap := (leastFirst s.capsInForce).getD (2000, .ceiling)

/-! ## Permitted speed (R87, R88) -/

/-- The permitted speed of R87: the lowest of the mode cap, the over-body limit and every curve. -/
def State.permitted (s : State) : Nat :=
  let cap := s.modeCap.1
  let body := (s.overBody.map Prod.fst).getD 2000
  let curve := ((governing s.targets).map Target.curve).getD 2000
  min cap (min body curve)

/-- The supervision record of R88: on equal values the mode cap first, the over-body limit second, then the targets. -/
def State.supRecord (s : State) : SupRecord :=
  let v := s.permitted
  let body := s.overBody.map Prod.fst
  if s.modeCap.1 = v then { source := .modeCap s.modeCap.2, target := none, aEff := none, overBody := body }
  else match s.overBody, governing s.targets with
    | some (ob, src), some g =>
      if ob = v then { source := src, target := none, aEff := none, overBody := body }
      else { source := g.source, target := some g.near, aEff := g.aEff, overBody := body }
    | some (_, src), none => { source := src, target := none, aEff := none, overBody := body }
    | none, some g => { source := g.source, target := some g.near, aEff := g.aEff, overBody := body }
    | none, none => { source := .modeCap s.modeCap.2, target := none, aEff := none, overBody := body }

/-- What the recomputation used (R89). -/
def State.usedNow (s : State) : Used where
  vMeas := s.pou.last.vMeas
  dir := s.aut.selected
  eb := s.bcu.ebAvail
  link := s.vru.link
  capValue := s.modeCap.1
  cap := s.modeCap.2
  targets := s.targets.length

/-! ## Supervision states (R90) -/

/-- The state that v_meas against v_perm indicates, with W and I (R90). -/
def indicated (vMeas vPerm w i : Nat) : SupState :=
  if (vMeas : Int) ≤ vPerm - w then .clear
  else if vMeas ≤ vPerm then .advise
  else if vMeas ≤ vPerm + i then .intervene
  else .trip

/-- The movement of the state held (R90). -/
def supMove (held ind : SupState) : SupState :=
  match held, ind with
  | .trip, _ => .trip
  | .intervene, .advise => .intervene
  | .intervene, x => x
  | .clear, x => x
  | .advise, x => x

/-- Where a recomputation takes the state: the state, and the trip cause where it enters TRIP (R90, R91). -/
def supNext (held : SupState) (vMeas vPerm w i : Nat) (onRackWithoutEb : Bool) : SupState × Option TripCause :=
  match supMove held (indicated vMeas vPerm w i) with
  | .trip => (.trip, some .overspeed)
  | .intervene => if onRackWithoutEb then (.trip, some .ebLostOnRack) else (.intervene, none)
  | .clear => (.clear, none)
  | .advise => (.advise, none)

/-- ENGAGED at the last position update with EB UNAVAILABLE (R91, R95). -/
def State.onRackWithoutEb (s : State) : Bool := s.pou.last.engagement = .engaged && !s.bcu.ebAvail

end Sys2Proof.Machine
end

