-- ==== Sys2Proof/Machine/Radio.lean ====
section
/-! DEFINITION. The Valley Radio Unit's own operations: the transmit queue (R160, R161), the bodies of car frames (R162, R213),
the report timer and the trip burst (R163, R164), the LOST limit (R165, R166), and switching the transceiver off (R152). -/

namespace Sys2Proof.Machine

/-! ## The transmit queue -/

/-- A REPORT waiting in the queue. -/
def CarFrame.isReport : CarFrame → Bool
  | .report _ _ => true
  | .answer _ => false

/-- A waiting REPORT takes the probe-sequence of a later one that carries one (R161). -/
def CarFrame.takeProbe (ps : Option Byte) : CarFrame → CarFrame
  | .report o p => .report o (if ps.isSome then ps else p)
  | .answer a => .answer a

/-- The queue less its oldest ANSWER (R161). -/
def dropOldestAnswer : List CarFrame → List CarFrame
  | [] => []
  | .answer _ :: rest => rest
  | .report o p :: rest => .report o p :: dropOldestAnswer rest

/-- A frame added at the end; with 4 waiting the oldest ANSWER makes room (R161). -/
def pushFrame (f : CarFrame) (q : List CarFrame) : List CarFrame :=
  if q.length < 4 then q ++ [f] else dropOldestAnswer q ++ [f]

/-- Queue a REPORT: one already waiting carries it (R161). While the latched address is none nothing is queued (R160). -/
def Vru.queueReport (o : Occasion) (ps : Option Byte) (v : Vru) : Vru :=
  if v.latched.isNone then v
  else if v.queue.any CarFrame.isReport then { v with queue := v.queue.map (CarFrame.takeProbe ps) }
  else { v with queue := pushFrame (.report o ps) v.queue }

/-- Queue an ANSWER (R158, R161). -/
def Vru.queueAnswer (a : LastTaken) (v : Vru) : Vru :=
  if v.latched.isNone then v else { v with queue := pushFrame (.answer a) v.queue }

/-! ## Timers -/

/-- The report timer started, or held stopped while a burst runs (R163). -/
def Vru.startReport (v : Vru) : Vru := { v with reportTimer := if v.burstCount = 0 then some 2000 else none }

/-- A trip burst: a REPORT at once, four more to come, the report timer held (R164). -/
def Vru.startBurst (v : Vru) : Vru :=
  if v.xcvr = .on then
    { v.queueReport .tripBurst none with burstCount := 4, burstTimer := some 500, reportTimer := none }
  else v

/-- HELD or RESTARTING: queue and frame in transmission dropped, report timer, burst and owed report ended, the frame being
received abandoned (R150, R152). -/
def Vru.switchOff (x : Xcvr) (restart : Option Nat) (v : Vru) : Vru :=
  { v with xcvr := x, restartTimer := restart, queue := [], sending := none, sendTimer := none, reportTimer := none,
           burstCount := 0, burstTimer := none, owed := none, rx := [] }

/-- The link state set, with the report timer started or stopped by the change (R163, R167). -/
def Vru.linkTo (l : LinkState) (v : Vru) : Vru :=
  match l with
  | .none => { v with link := l, reportTimer := none }
  | .lost => { v with link := l, reportTimer := none }
  | .silent => { v with link := l }
  | .up =>
    if v.link = .none || v.link = .lost then
      ({ v with link := l }.queueReport .linkUp none).startReport
    else { v with link := l }

/-- The LOST limit in ms: 4 s + G + S (R165). -/
def State.lostLimit (s : State) : Nat := 4000 + 1000 * s.lrs.settings.linkGrace + 1000 * s.vru.shadow

/-- S: the shadow allowance of the segment at the worst-case front, 0 where there is none (R166). -/
def State.shadowNow (s : State) : Nat :=
  match segmentAt s.lineSegments s.front with
  | none => 0
  | some p => p.seg.shadow

/-! ## Car frames on the line -/

/-- The body of an ANSWER, 4 bytes (R213). -/
def answerBody (a : LastTaken) : List Byte :=
  [a.seq, a.kind.code, a.outcome.code, byteOf (a.slot.getD 0xFF)]

/-- The first trip cause as a code, 0 for none (R162, R213). -/
def State.firstCause (s : State) : Byte :=
  match s.ssu.trip with
  | none => 0#8
  | some t => byteOf t.first.num

/-- The warning outputs: bit 0 side A, bit 1 side B (R213). -/
def warningByte (d : Dcu) : Byte := byteOf ((if d.sideA.warning then 1 else 0) + (if d.sideB.warning then 2 else 0))

/-- The brake summary of a REPORT, 8 bytes (R123, R213). -/
def brakeSummary (b : Bcu) : List Byte :=
  [b.pb1.state.code, b.pb2.state.code, b.wbDemand.code, flagByte b.wbFault, ebCode b.ebAvail, flagByte b.holdConf,
   b.test.code, flagByte b.traction]

/-- The body of a REPORT, 36 bytes, as the state stands (R162, R213). -/
def State.reportBody (s : State) (o : Occasion) (ps : Option Byte) : List Byte :=
  [o.code] ++ optField 1 (fun b => [b]) ps ++ chainBytes s.pou.last.cHigh ++ halfBytes s.pou.last.u ++
    halfBytes s.pou.last.vMeas ++ [directionCode s.aut.selected, s.ssu.state.code] ++ halfBytes s.ssu.vPerm ++
    [s.pou.last.engagement.code, s.pou.last.posState.code, s.vru.link.code] ++
    [s.dcu.a1.state.code, s.dcu.a2.state.code, s.dcu.b1.state.code, s.dcu.b2.state.code] ++
    [warningByte s.dcu, summaryCode s.dcu.secure] ++ brakeSummary s.bcu ++ optField 3 chainBytes s.aut.farEnd ++
    [s.firstCause]

/-- A frame as it passes the UART: start byte, header, body, CRC-16 over all but the start byte (R153, R154, R213). -/
def radioFrame (addr kind seq : Byte) (body : List Byte) : List Byte :=
  let covered := [addr, kind, seq, byteOf body.length] ++ body
  0xA5#8 :: (covered ++ halfBytes (crc16 covered).toNat)

/-- The bytes of a waiting frame, filled in as its transmission begins (R160, R161). -/
def State.carFrameBytes (s : State) (addr : Nat) (f : CarFrame) : List Byte :=
  match f with
  | .answer a => radioFrame (byteOf addr) 0x81#8 s.vru.txSeq (answerBody a)
  | .report o ps => radioFrame (byteOf addr) 0x82#8 s.vru.txSeq (s.reportBody o ps)

/-- ms to send n bytes at 9600 baud with 10 bits a byte (R153). -/
def sendTime (n : Nat) : Nat := (n * 25 + 23) / 24

/-- With nothing being sent, the next waiting frame begins; it takes the transmit sequence (R160, R161). -/
def kickTransmit (s : State) : State :=
  match s.vru.sending, s.vru.queue, s.vru.latched with
  | none, f :: rest, some addr =>
    let bytes := s.carFrameBytes addr f
    s.onVru (fun v => { v with queue := rest, sending := some bytes, sendTimer := some (sendTime bytes.length),
                               txSeq := v.txSeq + 1#8 })
  | _, _, _ => s

end Sys2Proof.Machine
end

