-- ==== Sys2Proof/Machine/Trip.lean ====
section
/-! DEFINITION. The recomputation of the SSU, its states, TRIP and the trip record, with their hand-overs to the BCU, the DCU and
the VRU (R76, R90 to R97), and what a band-brake fault, a change of EB availability and a change of link state bring. The
order of hand-overs that the manual leaves open is log 7. -/

namespace Sys2Proof.Machine

/-- The bit of a trip cause in the cause set (R213). -/
def TripCause.bit (c : TripCause) : BitVec 7 := BitVec.twoPow 7 (c.num - 1)

/-- The trip record at entry into TRIP, from the values the SSU holds (R94). -/
def State.newTrip (s : State) (c : TripCause) : TripRecord where
  first := c
  cHigh := s.pou.last.cHigh
  vMeas := s.pou.last.vMeas
  vPerm := s.ssu.vPerm
  set := c.bit

/-- Entry into TRIP: the trip record, the cause TRIP, the running test step aborted, the drive request OFF, the BCU's TRIP
action, both sides withdrawn and the trip burst (R92 to R94, R112, R115, R122, R138, R164). -/
def enterTrip (c : TripCause) (s : State) : State :=
  let s := latch .trip (s.onSsu (fun u => { u with state := .trip, trip := some (s.newTrip c) }))
  let s := abortTest .abortTrip s
  let s := bcuEval (s.onBcu (fun b => { b with driveReq := false }))
  (withdrawBoth s).onVru Vru.startBurst

/-- A further cause during TRIP joins the cause set (R95). -/
def addCause (c : TripCause) (s : State) : State :=
  s.onSsu (fun u => { u with trip := u.trip.map (fun t => { t with set := t.set ||| c.bit }) })

/-- A trip cause reported by the POU, the DCU or the BCU (R93, R95). -/
def tripCause (c : TripCause) (s : State) : State :=
  if s.ssu.state = .trip then addCause c s else enterTrip c s

/-- Report a trip cause where a condition holds. -/
def tripIf (b : Bool) (c : TripCause) (s : State) : State := if b then tripCause c s else s

/-- During TRIP a recomputation adds OVERSPEED or EB_LOST_ON_RACK (R95). -/
def addTripCauses (s : State) : State :=
  let v := s.pou.last.vMeas
  if s.ssu.vPerm + s.cfg.intervMargin < v then addCause .overspeed s
  else if s.ssu.vPerm < v && s.onRackWithoutEb then addCause .ebLostOnRack s
  else s

/-- The attention cause of an entry into a state other than TRIP (R92). -/
def entryCause (held next : SupState) : Option Cause :=
  match held, next with
  | .clear, .advise => some .advise
  | .trip, .advise => some .advise
  | .clear, .intervene => some .intervene
  | .advise, .intervene => some .intervene
  | _, _ => none

/-- The state set to one other than TRIP, its cause latched (R90, R92). -/
def setSupState (st : SupState) (s : State) : State :=
  match entryCause s.ssu.state st with
  | none => s.onSsu (fun u => { u with state := st })
  | some c => latch c (s.onSsu (fun u => { u with state := st }))

/-- v_perm, the supervision record and what was used, computed anew (R76, R87 to R89). -/
def computeSpeed (s : State) : State :=
  s.onSsu (fun u => { u with vPerm := s.permitted, record := s.supRecord, used := s.usedNow })

/-- The supervision state re-evaluated against v_perm, and a change of it or of v_perm handed to the BCU
(R76, R90 to R95). -/
def superviseSpeed (before : Nat) (s : State) : State :=
  if s.ssu.state = .trip then
    let s := addTripCauses s
    if s.ssu.vPerm = before then s else bcuEval s
  else
    match supNext s.ssu.state s.pou.last.vMeas s.ssu.vPerm s.cfg.warnMargin s.cfg.intervMargin s.onRackWithoutEb with
    | (_, some c) => enterTrip c s
    | (st, none) =>
      if st = s.ssu.state && s.ssu.vPerm = before then s else bcuEval (setSupState st s)

/-- A recomputation of the SSU (R76). -/
def recompute (s : State) : State := superviseSpeed s.ssu.vPerm (computeSpeed s)

/-! ## Band-brake faults -/

/-- A band brake enters FAULT (R107). `reason` is the reason of the test record where a step runs. -/
def bandFault (p : Band) (reason : TestReason) (s : State) : State :=
  let s := latch .brakeFault (s.onBcu (fun b => b.setBand p { b.band p with state := .fault, timer := none }))
  let s := match s.bcu.test.running with
    | none => s.onBcu (fun b => { b with test := .notDone })
    | some n => failStep n reason s
  bcuEval (tripIf (!s.pou.standstill && s.engaged) .bandFaultMoving s)

/-! ## The electric brake -/

/-- EB availability as the input, the filter and the degraded mark give it (R101). -/
def State.ebNow (s : State) : Bool := s.inp.settling.isNone && s.inp.levels.ebReady && !s.bcu.ebDegraded

/-- A change of EB availability: BRAKE_FAULT on loss, the SSU recomputes, the BCU evaluates (R100, R101). -/
def settleEb (s : State) : State :=
  if s.ebNow = s.bcu.ebAvail then s
  else
    let lost := s.bcu.ebAvail
    let s := s.onBcu (fun b => { b with ebAvail := s.ebNow })
    bcuEval (recompute (latchIf lost .brakeFault s))

/-- Step 5 ends DEGRADED: the mark set, EB UNAVAILABLE by it (R121). -/
def degradeStep5 (s : State) : State :=
  let s := endStep 5 .degraded .ebAbsent .passedDegraded (s.onBcu (fun b => { b with ebDegraded := true }))
  bcuEval (settleEb s)

/-! ## Authority notices and link state -/

/-- The chain changed to a shorter or longer one: AUTHORITY_CHANGE and the record-change notice (R64 to R71). -/
def chainChanged (chain : List Authority) (s : State) : State :=
  recompute (latch .authorityChange (s.onAut (fun a => { a with chain := chain })))

/-- Whether the record's extent contains a chainage (R71). -/
def Authority.contains (r : Authority) (c : Int) : Bool := r.lo ≤ c && c < r.hi

/-- What a cut-back leaves: the records up to the one that contains the worst-case front, or none (R71). -/
def cutChain (front : Int) (chain : List Authority) : List Authority :=
  if chain.any (fun r => r.contains front) then chain.take (placeOf (fun r => r.contains front) chain + 1) else []

/-- The cut-back: the chain cut, AUTHORITY_CHANGE where a record is retired; the recomputation follows with the link's
(R71, R167). -/
def cutBack (s : State) : State :=
  let kept := cutChain s.front s.aut.chain
  latchIf (kept.length != s.aut.chain.length) .authorityChange (s.onAut (fun a => { a with chain := kept }))

/-- A change of link state: LINK_CHANGE, the report timer, the cut-back on LOST, and the SSU's recomputation (R167). -/
def changeLink (l : LinkState) (s : State) : State :=
  if s.vru.link = l then s
  else
    let s := latch .linkChange (s.onVru (fun v => v.linkTo l))
    recompute (if l = .lost then cutBack s else s)

/-- The silence compared with 4 s and with the LOST limit (R165, R166). -/
def judgeLink (s : State) : State :=
  let s := if s.vru.link = .up && 4000 ≤ s.vru.silence then changeLink .silent s else s
  if (s.vru.link = .silent || s.vru.link = .none) && s.lostLimit ≤ s.vru.silence then changeLink .lost s else s

/-- The transceiver becomes ON from HELD or RESTARTING (R152); `zero` where the WAKE that releases the park's hold sets the
silence timer to 0. -/
def transceiverOn (zero : Bool) (s : State) : State :=
  let s := s.onVru (fun v => { v with xcvr := .on, restartTimer := none, lastTaken := none,
                                      silence := if zero then 0 else v.silence })
  judgeLink (changeLink .none s)

/-! ## Change of mode -/

/-- A change of mode handed to the blocks (R191): drive request OFF and running test step aborted (R112, R122), doors
withdrawn on leaving SERVICE or DEPOT (R138), run lock on entry to SERVICE (R188), the SSU's recomputation and the BCU's
evaluation (R76, R100). -/
def changeMode (m : Mode) (s : State) : State :=
  let left := s.ctl.mode
  let s := s.onCtl (fun c => { c with mode := m })
  let s := abortTest .abortMode (s.onBcu (fun b => { b with driveReq := false }))
  let s := if left = .service || left = .depot then withdrawBoth s else s
  let s := if m = .service then s.onNvc (fun n => { n with runLock := true }) else s
  bcuEval (recompute s)

/-! ## Tables leaving CLOSED -/

/-- The effects of a table leaving CLOSED: the stop table empties the closure set, the profile table clears the restriction
list and the overflow record; the LRS sends its notice (R25, R58, R172). -/
def leaveClosed (t : Table) (s : State) : State :=
  match t with
  | .stops =>
    recompute (latchIf (!s.lrs.closure.isEmpty) .closureChange (s.onLrs (fun l => { l with closure := [] })))
  | .profile =>
    let s1 := latchIf (!s.lrs.restrictions.isEmpty) .restrictionChange s
    let s2 := latchIf s.lrs.overflow.isSome .overflow s1
    recompute (s2.onLrs (fun l => { l with restrictions := [], overflow := none }))
  | .car => recompute s

end Sys2Proof.Machine
end

