-- ==== Sys2Proof/Machine/Position.lean ====
section
/-! DEFINITION. The Position Unit: counting pulses, measured speed, uncertainty and position state, engagement, fixes and
rollback (R27 to R48), and the Authority Table's occupation and trim at a position update (R65, R66). -/

namespace Sys2Proof.Machine

/-! ## Counting -/

/-- The largest fine position, D_r and D_w (R30, R35). -/
def topFine : Nat := 1677721599

/-- The fine position moved by one counted pulse, held within its range (R30). -/
def moveFine (d : Direction) (dist fine : Nat) : Nat :=
  match d with
  | .up => min (fine + dist) topFine
  | .down => fine - dist

/-- The distance of one wheel pulse, 0.1 mm; the remainder is not carried (R29). -/
def State.wheelDist (s : State) : Nat := s.lrs.settings.wheelCirc / s.cfg.wheelPulses

/-- U by its formula, saturated at 65,535 (R35). -/
def uncertainty (c : CarConfig) (uBase dR dW : Nat) : Nat :=
  min (uBase + dR / 100 * c.eRack / 1000 + dW / 100 * c.eWheel / 1000) 65535

/-- A pulse moves the position, enters the speed window and adds to its distance; U is recomputed and never falls by it
(R29, R30, R35). `pinion` tells the source. -/
def Pou.count (c : CarConfig) (pinion : Bool) (dist : Nat) (p : Pou) : Pou :=
  let dR := if pinion then min (p.dR + dist) topFine else p.dR
  let dW := if pinion then p.dW else min (p.dW + dist) topFine
  { p with fine := moveFine p.lastDir dist p.fine, window := { age := 0, dist := dist } :: p.window, dR := dR, dW := dW,
           u := max p.u (uncertainty c p.uBase dR dW) }

/-- The rollback accumulator after a counted pulse (R47): zeroed by a pulse in the selected direction, held at 0 in START
and READY, saturating. -/
def Pou.countRollback (m : Mode) (sel : Direction) (dist : Nat) (p : Pou) : Pou :=
  if p.lastDir = sel || m = .start || m = .ready then p.zeroRollback
  else { p with rollback := min (p.rollback + dist) 6553500 }

/-- The modes in which a rollback is reported (R48). -/
def Mode.watchesRollback : Mode → Bool
  | .service => true
  | .depot => true
  | .parked => true
  | .waking => true
  | .start => false
  | .ready => false

/-- The accumulator stands at or above the limit, and this passing has not been reported (R48). -/
def State.rollbackDue (s : State) : Bool :=
  s.ctl.mode.watchesRollback && s.pou.lastDir ≠ s.aut.selected && s.cfg.rollbackLimit * 100 ≤ s.pou.rollback &&
    !s.pou.rollbackReported

/-- The report of ROLLBACK, once for each passing of the limit (R48). -/
def reportRollback (s : State) : State :=
  if s.rollbackDue then tripCause .rollback (s.onPou (fun p => { p with rollbackReported := true })) else s

/-- A counted pulse: position, uncertainty and rollback accumulator. -/
def countPulse (pinion : Bool) (dist : Nat) (s : State) : State :=
  s.onPou (fun p => (p.count s.cfg pinion dist).countRollback s.ctl.mode s.aut.selected dist)

/-! ## Standstill -/

/-- A pulse starts the 1 s anew and ends standstill, which is told at once to the BCU and the DCU: a running test step is
aborted and both sides are withdrawn (R33, R100, R122, R138). -/
def endStandstill (s : State) : State :=
  let t := s.onPou (fun p => { p with sincePulse := 0, standstill := false })
  if s.pou.standstill then withdrawBoth (bcuEval (abortTest .abortMotion t)) else t

/-- Standstill declared: v_meas is 0, the BCU evaluates, and the rollback accumulator is zeroed where holding is confirmed
(R32, R33, R47, R100). -/
def declareStandstill (s : State) : State :=
  let s := bcuEval (s.onPou (fun p => { p with standstill := true, vMeas := 0 }))
  if s.bcu.holdConf then s.onPou Pou.zeroRollback else s

/-! ## Fixes -/

/-- A fix or SET_POSITION places the car: U_base and U set, D_r and D_w zeroed (R35, R37, R42, R45). -/
def Pou.place (fine uBase : Nat) (p : Pou) : Pou := { p with fine := fine, uBase := uBase, dR := 0, dW := 0, u := uBase }

/-- A fix makes a LOST position KNOWN (R36). -/
def Pou.found (p : Pou) : Pou := if p.posState = .lost then { p with posState := .known } else p

/-- A fine position from a signed one, held within its range (R30, log 28). -/
def fineOf (x : Int) : Nat := min x.toNat topFine

/-- The fine position that puts the pinion point 8 pitches into the rack entry (R42). -/
def entryFine (c : CarConfig) (adhBoundary : Nat) (d : Direction) : Nat :=
  let pinion : Int :=
    match d with
    | .up => adhBoundary * 100 + 8 * c.rackPitch
    | .down => adhBoundary * 100 - 8 * c.rackPitch
  fineOf (pinion + ((c.carLength : Int) - c.pinionOffset) * 100)

/-- The entry fix (R42). -/
def entryFix (adhBoundary : Nat) (d : Direction) (s : State) : State :=
  latch .positionFix (s.onPou (fun p => (p.place (entryFine s.cfg adhBoundary d) s.cfg.uFixRack).found))

/-- The marker fix: the reader point placed at the marker (R45). -/
def markerFix (m : Nat) (s : State) : State :=
  let fine := fineOf (((m : Int) + s.cfg.carLength - s.cfg.readerOffset) * 100)
  latch .positionFix (s.onPou (fun p => (p.place fine s.cfg.uFixMarker).found))

/-! ## Engagement -/

/-- A seek as it is entered (R40). -/
def newSeek (k : SeekKind) : Seek := { kind := k, wheelDist := 0, ref := none, good := 0, fault := false }

/-- The seek a car not engaged enters at a position update, from the segment at the pinion point and the one found at the
update before (R40). -/
def seekEntered (prev now : Option Placed) : Option Seek :=
  match now with
  | none => none
  | some p =>
    match p.seg.kind with
    | .rack => some (newSeek .onRack)
    | .adhesion => none
    | .transition =>
      match prev, p.hi with
      | some q, some h =>
        if q.seg.kind = .adhesion && q.index + 1 = p.index then some (newSeek (.entry p.lo h .up))
        else if q.seg.kind = .adhesion && p.index + 1 = q.index then some (newSeek (.entry h p.lo .down))
        else none
      | _, _ => none

/-- The pinion point has passed the rack boundary of an ENTRY seek by 200 cm (R43). -/
def entryPassed (k : SeekKind) (pinion : Int) : Bool :=
  match k with
  | .entry _ rack .up => rack + 200 ≤ pinion
  | .entry _ rack .down => pinion ≤ rack - 200
  | .onRack => false

/-- The seek abandoned: the pinion point in ADHESION or in no segment (R43). -/
def seekAbandoned (now : Option Placed) : Bool :=
  match now with
  | none => true
  | some p => p.seg.kind = .adhesion

/-- The engagement rules of a position update (R39, R40, R43). DEDUCED (log 48): a seek whose pinion point is at one update both past the
rack boundary and in ADHESION or no segment is abandoned without ENGAGE_FAULT. -/
def engageStep (s : State) : State :=
  if s.pou.posState = .unknown then s.onPou (fun p => { p with engagement := .disengaged })
  else
    match s.pou.engagement with
    | .disengaged =>
      match seekEntered s.pou.prevSeg s.pinionSegment with
      | none => s
      | some r => s.onPou (fun p => { p with engagement := .seeking r })
    | .seeking r =>
      if seekAbandoned s.pinionSegment then s.onPou (fun p => { p with engagement := .disengaged })
      else if entryPassed r.kind s.pinionPoint && !r.fault then
        tripCause .engageFault (s.onPou (fun p => { p with engagement := .seeking { r with fault := true } }))
      else s
    | .engaged => s

/-- The spacing is within a tenth of the rack pitch (R41). -/
def spacingGood (pitch spacing : Nat) : Bool := 9 * pitch ≤ 10 * spacing && 10 * spacing ≤ 11 * pitch

/-- The seek record after a pinion pulse (R41). -/
def Seek.pulse (pitch : Nat) (r : Seek) : Seek :=
  match r.ref with
  | none => { r with ref := some r.wheelDist }
  | some w => { r with ref := some r.wheelDist, good := if spacingGood pitch (r.wheelDist - w) then r.good + 1 else 0 }

/-- ENGAGED, with the entry fix of an ENTRY seek (R41, R42). -/
def engage (k : SeekKind) (s : State) : State :=
  let s := s.onPou (fun p => { p with engagement := .engaged, silenceDist := 0 })
  match k with
  | .entry adh _ d => entryFix adh d s
  | .onRack => s

/-- The wheel distance of a seek grows; an ON_RACK seek that reaches 200 cm without its flag raises ENGAGE_FAULT (R43). -/
def Seek.wheel (dist : Nat) (r : Seek) : Seek × Bool :=
  let w := r.wheelDist + dist
  let raised := r.kind = .onRack && 20000 ≤ w && !r.fault
  ({ r with wheelDist := w, fault := r.fault || raised }, raised)

/-- A wheel pulse counted on the wheel: position, seek record, ENGAGE_FAULT, rollback (R29, R41, R43, R47, R48). DESIGN CHOICE (log 47):
one pulse that raises both reports ENGAGE_FAULT before ROLLBACK. -/
def countWheel (dist : Nat) (s : State) : State :=
  let s := countPulse false dist s
  match s.pou.engagement with
  | .seeking r =>
    reportRollback (tripIf (r.wheel dist).2 .engageFault
      (s.onPou (fun p => { p with engagement := .seeking (r.wheel dist).1 })))
  | .disengaged => reportRollback s
  | .engaged => reportRollback s

/-- The pinion silent over three pitches: on RACK an ON_RACK seek and PINION_SIGNAL, elsewhere DISENGAGED; the completing
pulse is the first counted on the wheel (R44). DESIGN CHOICE (log 56): the silence distance is 0 from then on. DESIGN CHOICE (log 47): a
pulse that completes the silence on RACK and also takes the rollback accumulator to its limit reports PINION_SIGNAL before ROLLBACK. -/
def pinionSilent (dist : Nat) (s : State) : State :=
  let onRack : Bool :=
    match s.pinionSegment with
    | none => false
    | some p => p.seg.kind = .rack
  let next : Engagement := if onRack then .seeking (newSeek .onRack) else .disengaged
  let s := s.onPou (fun p => { p with engagement := next, silenceDist := 0 })
  if onRack then countWheel dist (tripCause .pinionSignal s) else countWheel dist s

/-- A wheel pulse while ENGAGED adds to the silence distance (R44). -/
def wheelWhileEngaged (dist : Nat) (s : State) : State :=
  if s.pou.silenceDist + dist < 3 * s.cfg.rackPitch then
    s.onPou (fun p => { p with silenceDist := p.silenceDist + dist })
  else pinionSilent dist s

/-! ## Position updates -/

/-- v_meas from the speed window: the distances of the last 200 ms, divided by 20, saturated (R32). -/
def speedOf (w : List WindowPulse) : Nat :=
  min (((w.filter (fun x => x.age ≤ 200)).map WindowPulse.dist).sum / 20) 2000

/-- Form v_meas; pulses older than 200 ms leave the window (R32). -/
def Pou.formSpeed (p : Pou) : Pou :=
  { p with vMeas := if p.standstill then 0 else speedOf p.window, window := p.window.filter (fun x => x.age ≤ 200) }

/-- A KNOWN position with U above U_MAX becomes LOST (R36). -/
def checkLost (s : State) : State :=
  if s.pou.posState = .known && s.cfg.uMax < s.pou.u then
    latch .positionLost (s.onPou (fun p => { p with posState := .lost }))
  else s

/-- The position update as it is published (R34). -/
def Pou.update (p : Pou) : PosUpdate where
  cHigh := p.cHigh
  u := p.u
  posState := p.posState
  vMeas := p.vMeas
  motion := p.motion
  standstill := p.standstill
  engagement := p.engagement.state

/-- The POU's part of a position update: speed, U against U_MAX, engagement, then the publication (R34). -/
def publish (s : State) : State :=
  let s := engageStep (checkLost (s.onPou Pou.formSpeed))
  s.onPou (fun p => { p with prevSeg := s.pinionSegment, sinceUpdate := 0, last := p.update })

/-- A point lies beyond a chainage (R61). -/
def beyond (d : Direction) (point : Int) (x : Nat) : Bool :=
  match d with
  | .up => x ≤ point
  | .down => point < x

/-- An AHEAD record whose start the worst-case front lies beyond becomes OCCUPIED (R65). -/
def Authority.occupy (d : Direction) (front : Int) (r : Authority) : Authority :=
  if r.occupation = .ahead && beyond d front r.start then { r with occupation := .occupied } else r

/-- The chain less the records, from slot 0, whose end the worst-case rear lies beyond (R66). -/
def trimChain (d : Direction) (rear : Int) : List Authority → List Authority
  | [] => []
  | r :: rest => if beyond d rear r.stop then trimChain d rear rest else r :: rest

/-- Occupation, then trim (R65, R66). -/
def authorityUpdate (s : State) : State :=
  let d := s.aut.selected
  let occ := s.aut.chain.map (fun r => r.occupy d s.front)
  let kept := trimChain d s.rear occ
  if kept.length = occ.length then s.onAut (fun a => { a with chain := occ }) else chainChanged kept s

/-- The VRU reads S again and compares the silence with the new limit (R166). -/
def shadowUpdate (s : State) : State := judgeLink (s.onVru (fun v => { v with shadow := s.shadowNow }))

/-- The receivers act on the published update: AUT, VRU, SSU, BCU (R34; their order is log 7). -/
def actOnUpdate (s : State) : State := bcuEval (recompute (shadowUpdate (authorityUpdate s)))

end Sys2Proof.Machine
end

