-- ==== Sys2Proof/Machine/Time.lean ====
section
/-! DEFINITION. The part's clock: what the passing of time does to the timers of every block, and which events are then due
(log 1, log 2, log 3). -/

namespace Sys2Proof.Machine

def Pou.elapse (n : Nat) (p : Pou) : Pou :=
  { p with sincePulse := p.sincePulse + n, sinceUpdate := p.sinceUpdate + n,
           window := p.window.map (fun w => { w with age := w.age + n }) }

/-- The remaining time runs while the record is AHEAD (R65, R67). -/
def Authority.elapse (n : Nat) (r : Authority) : Authority :=
  match r.occupation with
  | .ahead => { r with leftMs := timerLess n r.leftMs }
  | .occupied => r

def Aut.elapse (n : Nat) (a : Aut) : Aut := { a with chain := a.chain.map (fun r => r.elapse n) }

def BandBrake.elapse (n : Nat) (x : BandBrake) : BandBrake := { x with timer := timerLess n x.timer }

def Bcu.elapse (n : Nat) (b : Bcu) : Bcu :=
  { b with pb1 := b.pb1.elapse n, pb2 := b.pb2.elapse n, followTimer := timerLess n b.followTimer,
           stepTimer := timerLess n b.stepTimer }

def LeafRec.elapse (n : Nat) (l : LeafRec) : LeafRec :=
  { l with timer := timerLess n l.timer,
           candidate := l.candidate.map (fun c => { c with stall := c.stall - n }) }

def Dcu.elapse (n : Nat) (d : Dcu) : Dcu := d.mapLeaves (fun l => l.elapse n)

/-- The silence timer runs in every transceiver state (R165). -/
def Vru.elapse (n : Nat) (v : Vru) : Vru :=
  { v with restartTimer := timerLess n v.restartTimer, silence := v.silence + n, sendTimer := timerLess n v.sendTimer,
           reportTimer := timerLess n v.reportTimer, burstTimer := timerLess n v.burstTimer, owed := timerLess n v.owed }

def Nvc.elapse (n : Nat) (c : Nvc) : Nvc := { c with op := c.op.map (fun f => { f with elapsed := f.elapsed + n }) }

def Ctl.elapse (n : Nat) (c : Ctl) : Ctl :=
  { c with settle := timerLess n c.settle, startTimer := timerLess n c.startTimer }

def Cmp.elapse (n : Nat) (p : Cmp) : Cmp :=
  { p with inProgress := p.inProgress.map (fun r => { r with timer := r.timer - n }) }

def Inp.elapse (n : Nat) (i : Inp) : Inp := { i with settling := timerLess n i.settling, lineWait := i.lineWait + n }

/-- `n` milliseconds pass: every running timer runs, nothing else changes. -/
def elapse (n : Nat) (s : State) : State :=
  ((((((((s.onPou (Pou.elapse n)).onAut (Aut.elapse n)).onBcu (Bcu.elapse n)).onDcu (Dcu.elapse n)).onVru
    (Vru.elapse n)).onNvc (Nvc.elapse n)).onCtl (Ctl.elapse n)).onCmp (Cmp.elapse n)).onInp (Inp.elapse n)

/-! ## Events due -/

/-- One event where its condition holds. -/
def dueIf (b : Bool) (i : Instr) : List Instr := if b then [i] else []

/-- A timer that has run out. -/
def ranOut (t : Option Nat) : Bool := t = some 0

/-- The event of a band brake's timer (R105). -/
def bandDue (p : Band) (x : BandBrake) : List Instr :=
  dueIf (ranOut x.timer && x.state = .releasing) (.releaseTimerExpiry p) ++
  dueIf (ranOut x.timer && x.state = .applying) (.applyTimerExpiry p)

/-- The event of a leaf's timers (R130, R132, R134, R144); a stall timer that ends past 950 of the stroke brings none (log 59). -/
def leafDue (l : Leaf) (stroke : Nat) (r : LeafRec) : List Instr :=
  (if ranOut r.timer then
    match r.state with
    | .opening => [.openStrokeTimeout l]
    | .reversing => [.openStrokeTimeout l]
    | .closing => [.closeStrokeTimeout l]
    | .locking => [.lockTimeout l]
    | .opened => [.dwellEnd l]
    | .warning => [.warnLeadEnd l]
    | .locked => []
    | .released => []
    | .fault => []
    | .isolated => []
  else []) ++
  (match r.candidate with
    | none => []
    | some c => dueIf (c.stall = 0 && !pastWatch stroke) (.stallTimeout l))

/-- The first record whose remaining time has reached 0 while AHEAD (R67). -/
def Authority.expired (r : Authority) : Bool := r.occupation = .ahead && ranOut r.leftMs

def expiryDue (chain : List Authority) : List Instr :=
  dueIf (chain.any Authority.expired) (.recordExpiry (placeOf Authority.expired chain))

/-- 1 s has passed without a pulse, and standstill is not yet declared (R33). -/
def State.standstillDue (s : State) : Bool := !s.pou.standstill && 1000 ≤ s.pou.sincePulse

/-- The nonvolatile operation at its time limit (R174); how far it had got is a free value (log 5). -/
def opDue (s : State) : List Instr :=
  match s.nvc.op with
  | none => []
  | some f => dueIf (f.limit ≤ f.elapsed) (.nvTimeLimit (Config.unstatedCut s.drawn))

/-- The events whose time has come, in the order in which the model queues them (log 1). -/
def dueEvents (s : State) : List Instr :=
  dueIf (ranOut s.ctl.startTimer) .startSequence ++
  dueIf (ranOut s.inp.settling) (.inputFilterSettled s.inp.levels) ++
  bandDue .pb1 s.bcu.pb1 ++ bandDue .pb2 s.bcu.pb2 ++
  dueIf (ranOut s.bcu.followTimer) .followTimerExpiry ++
  dueIf (ranOut s.bcu.stepTimer && s.bcu.test = .running1) .step1Timeout ++
  dueIf (ranOut s.bcu.stepTimer && s.bcu.test = .running5) .step5WatchEnd ++
  leafDue .a1 s.inp.strokes.a1 s.dcu.a1 ++ leafDue .a2 s.inp.strokes.a2 s.dcu.a2 ++
  leafDue .b1 s.inp.strokes.b1 s.dcu.b1 ++ leafDue .b2 s.inp.strokes.b2 s.dcu.b2 ++
  expiryDue s.aut.chain ++
  dueIf (s.vru.link = .up && 4000 ≤ s.vru.silence) .silenceReaches4s ++
  dueIf ((s.vru.link = .silent || s.vru.link = .none) && s.lostLimit ≤ s.vru.silence) .silenceReachesLostLimit ++
  dueIf (ranOut s.vru.restartTimer) .restartTimerExpiry ++
  dueIf (ranOut s.vru.reportTimer) .reportTimerExpiry ++
  dueIf (ranOut s.vru.burstTimer) .burstTimerExpiry ++
  dueIf (ranOut s.vru.owed) .broadcastReportDelay ++
  dueIf (ranOut s.vru.sendTimer) .carFrameSent ++
  opDue s ++
  dueIf (ranOut s.ctl.settle) .settleTimerExpiry ++
  (match s.cmp.inProgress with
    | none => []
    | some r => dueIf (r.timer = 0) .responseReady) ++
  dueIf s.standstillDue .standstillDeclared ++
  dueIf (20 ≤ s.pou.sinceUpdate) .positionUpdate

/-- The time left to the next position update (R34). -/
def State.toUpdate (s : State) : Nat := 20 - s.pou.sinceUpdate

end Sys2Proof.Machine
end

