-- ==== Sys2Proof/Machine/Port.lean ====
section
/-! DEFINITION. The Command Port's own operations: taking a request, the owner's answer, the response frame, reading it
(R194, R203 to R207). -/

namespace Sys2Proof.Machine

/-! ## Answers of owners (R207) -/

/-- DONE with the items of the request's rule. -/
def answerDone (items : List Byte) : Answer := { status := .done, reason := .none, items := items }

/-- A refusal: BUSY has its own status, every other reason is sent REFUSED. -/
def answerRefused (r : Reason) (items : List Byte) : Answer :=
  if r = .busy then { status := .busy, reason := .busy, items := [] } else { status := .refused, reason := r, items := items }

/-- What an owner returns: its answer and the state it leaves. -/
abbrev Owned := Answer × State

/-- Refused, with nothing changed. -/
def refuse (r : Reason) (s : State) : Owned := (answerRefused r [], s)

/-- Refused with items, nothing changed. -/
def refuseWith (r : Reason) (items : List Byte) (s : State) : Owned := (answerRefused r items, s)

/-- Done, with items and a new state. -/
def doneWith (items : List Byte) (s : State) : Owned := (answerDone items, s)

/-! ## Responses -/

/-- The payload: the echoed code and the items; empty for BADFRAME (R207). -/
def responsePayload (code : Byte) (a : Answer) : List Byte :=
  match a.status with
  | .badFrame => []
  | .done => code :: a.items
  | .refused => code :: a.items
  | .busy => code :: a.items
  | .unknown => code :: a.items

/-- The response frame: length, status, reason, payload, CRC-8 (R211). -/
def responseFrame (code : Byte) (a : Answer) : List Byte :=
  let payload := responsePayload code a
  let head := [byteOf (payload.length + 3), a.status.code, a.reason.code] ++ payload
  head ++ [crc8 head]

/-- A waiting response discarded: none waiting, RDY inactive (R204, R206). -/
def Cmp.dropWaiting (p : Cmp) : Cmp := { p with waiting := none, readPos := 0, rdy := false }

/-- A response becomes the waiting one: read position 0, RDY active (R206). -/
def Cmp.setWaiting (frame : List Byte) (p : Cmp) : Cmp := { p with waiting := some frame, readPos := 0, rdy := true }

/-! ## Requests -/

/-- START and WAKING, in which only status requests are served (R194). -/
def Mode.refusesRequests : Mode → Bool
  | .start => true
  | .waking => true
  | .ready => false
  | .service => false
  | .depot => false
  | .parked => false

/-- A request frame taken: dropped while another is in progress; else it discards a waiting response, the mode controller
applies R194, and the owner decides; its answer becomes the response within 2 ms (R206). -/
def takeRequest (code : Byte) (status : Bool) (owner : State → Owned) (s : State) : State :=
  if s.cmp.inProgress.isSome then s
  else
    let t := s.onCmp Cmp.dropWaiting
    let r := if t.ctl.mode.refusesRequests && !status then refuse .busy t else owner t
    r.2.onCmp (fun p => { p with inProgress := some { code := code, answer := r.1, timer := 2 } })

/-- A bad or unknown frame: dropped while a request is in progress, else its own response takes the place (R205, R206). -/
def answerFrame (code : Byte) (a : Answer) (s : State) : State :=
  if s.cmp.inProgress.isSome then s else s.onCmp (Cmp.setWaiting (responseFrame code a))

/-- BADFRAME: reason NONE, empty payload (R205). -/
def badFrameAnswer : Answer := { status := .badFrame, reason := .none, items := [] }

/-- UNKNOWN: reason NONE, the echoed code alone (R205). -/
def unknownAnswer : Answer := { status := .unknown, reason := .none, items := [] }

/-- During a request transaction the part clocks out bytes of 0 alone, as many as the car computer clocks (R204). -/
def clockZeros (s : State) : State := s.onCmp (fun p => { p with dataOut := [] })

/-- A bad request frame (R204, R205). -/
def takeBadFrame (s : State) : State := answerFrame 0#8 badFrameAnswer (clockZeros s)

/-- The outcome of a command: what it changed, with the next car frame begun where the transmitter is idle (R161, log 8). -/
def finish (s : State) : Host.Outcome State Fault Refusal := .next (kickTransmit s)

/-- A request's outcome: its frame is clocked in while zeros are clocked out, and is then taken (R204, R206). -/
def request (code : Byte) (status : Bool) (owner : State → Owned) (s : State) : Host.Outcome State Fault Refusal :=
  finish (takeRequest code status owner (clockZeros s))

/-! ## Reading the response (R204) -/

/-- Byte `i` clocked out in the last transaction: past the bytes of a response every byte is 0 (R204). -/
def Cmp.outByte (p : Cmp) (i : Nat) : Byte := (p.dataOut[i]?).getD 0#8

/-- The bytes clocked out from a read position; zeros past the last byte (R204). -/
def clockedOut (frame : List Byte) (pos n : Nat) : List Byte :=
  let bytes := (frame.drop pos).take n
  bytes ++ List.replicate (n - bytes.length) 0#8

/-- `n` bytes clocked in a read transaction, and chip select going inactive after them where `ends` (R204). DEDUCED (log 24): a response
that becomes waiting in the middle of a read transaction is clocked out from its first byte by the clocks that follow it. -/
def Cmp.read (n : Nat) (ends : Bool) (p : Cmp) : Cmp :=
  match p.waiting with
  | none => { p with dataOut := List.replicate n 0#8, readPos := 0 }
  | some frame =>
    let q := { p with dataOut := clockedOut frame p.readPos n, readPos := min (p.readPos + n) frame.length }
    if ends then (if q.readPos = frame.length then q.dropWaiting else { q with readPos := 0 }) else q

end Sys2Proof.Machine
end

