-- ==== Sys2Proof/Machine/Store.lean ====
section
/-! DEFINITION. The nonvolatile store under the NVC: what an operation changes when it starts, when its last write is confirmed
and when it is cut short (R172, R174 to R187), the check word (R183), and the verification at START with its own write (R193). -/

namespace Sys2Proof.Machine

/-! ## Check words (R183) -/

/-- The check word of a table over its record images, in table order (R183). -/
def Nv.checkWord (nv : Nv) (t : Table) : Half :=
  match t with
  | .profile => crc16 ((nv.segments.map Segment.image).flatten)
  | .stops => crc16 ((nv.stops.map StopRec.image).flatten)
  | .car => crc16 ((nv.config.map CarConfig.image).getD [])

/-! ## Records -/

/-- Every record of a table removed; for the car record the identity block stays (R176). -/
def Nv.removeAll (t : Table) (nv : Nv) : Nv :=
  match t with
  | .profile => { nv with segments := [] }
  | .stops => { nv with stops := [] }
  | .car => { nv with config := none }

/-- What an erase cut short leaves: the records whose bit of `mask` is clear (log 5). -/
def Nv.removeSome (t : Table) (mask : Nat) (nv : Nv) : Nv :=
  match t with
  | .profile => { nv with segments := keepPlaces (fun i => !mask.testBit i) 0 nv.segments }
  | .stops => { nv with stops := keepPlaces (fun i => !mask.testBit i) 0 nv.stops }
  | .car => if mask.testBit 0 then { nv with config := none } else nv

/-- The order of the stop table: by reference chainage, then by number (R11). -/
def StopRec.before (p q : StopRec) : Bool :=
  p.reference < q.reference || (p.reference = q.reference && p.number < q.number)

/-- Stop images merged among the stored records at the places R11 gives them (R180). -/
def mergeStops (images stored : List StopRec) : List StopRec :=
  images.foldl (fun l p => insertSorted StopRec.before p l) stored

/-- The line end written into the end field of the last record (R4, R182). -/
def writeLineEnd (e : Nat) : List Segment → List Segment
  | [] => []
  | [g] => [{ g with endC := some e }]
  | g :: h :: rest => g :: writeLineEnd e (h :: rest)

/-- State, check word and lock of a table as an operation stores them. -/
def Nv.store (t : Table) (st : TableState) (check : Option Half) (lock : Bool) (nv : Nv) : Nv :=
  nv.setInfo t { state := st, check := check, lock := lock, unwritten := none }

/-! ## Operations in flight -/

/-- The operations that mark their table INCOMPLETE at the start (R174). -/
def NvOp.marks : NvOp → Bool
  | .erase _ => true
  | .commit _ => true
  | .close _ _ => true
  | .writeCar _ => true
  | .unlock _ => true
  | .lock _ => false
  | .programIdentity _ => false

/-- The time limit in ms; a commit's follows from the declared count (R174). -/
def NvOp.limit (declared : Nat) : NvOp → Nat
  | .erase _ => 3000
  | .commit _ => 5 * declared
  | .close _ _ => 500
  | .writeCar _ => 100
  | .unlock _ => 3000
  | .lock _ => 50
  | .programIdentity _ => 50

/-- The table marked INCOMPLETE, its check word removed; its lock stands (R174). -/
def Nv.mark (t : Table) (nv : Nv) : Nv := nv.store t .incomplete none (nv.info t).lock

/-- The operation begins: where it changes records its table is marked, and a CLOSED table leaves CLOSED with the effects of
R172 (R174). -/
def startOp (op : NvOp) (s : State) : State :=
  let t := s.onNvc (fun n => { n with op := some { op := op, limit := op.limit n.batch.declared, elapsed := 0 } })
  if op.marks then
    let u := t.onNv (Nv.mark op.table)
    if s.tableState op.table = .closed then leaveClosed op.table u else u
  else t

/-- What the store holds once the last write of an operation is confirmed (R174, R176, R180, R182, R184 to R187). -/
def Nv.complete (op : NvOp) (b : Batch) (nv : Nv) : Nv :=
  match op with
  | .erase t => (nv.removeAll t).store t .empty none (nv.info t).lock
  | .commit .profile =>
    { nv with segments := nv.segments ++ b.segments }.store .profile .loading none nv.profileT.lock
  | .commit .stops => { nv with stops := mergeStops b.stops nv.stops }.store .stops .loading none nv.stopsT.lock
  | .commit .car => nv
  | .close .profile e =>
    let w := { nv with segments := writeLineEnd e nv.segments }
    w.store .profile .closed (some (w.checkWord .profile)) nv.profileT.lock
  | .close .stops _ => nv.store .stops .closed (some (nv.checkWord .stops)) nv.stopsT.lock
  | .close .car _ => nv
  | .writeCar c =>
    let w := { nv with config := some c }
    w.store .car .closed (some (w.checkWord .car)) nv.carT.lock
  | .programIdentity i => { nv with identity := some i, idLock := true }
  | .lock t => nv.setInfo t { nv.info t with lock := true }
  | .unlock t => (nv.removeAll t).store t .empty none false

/-- What the store holds when an operation is cut short: the table it had marked stays INCOMPLETE with whatever `cut` says had been
done, and LOCK_TABLE and PROGRAM_IDENTITY leave what stood before (R174, R175, R180, R185 to R187; log 5). -/
def Nv.cutShort (op : NvOp) (b : Batch) (cut : Cut) (nv : Nv) : Nv :=
  match op with
  | .erase t => nv.removeSome t cut.mask
  | .commit .profile => { nv with segments := nv.segments ++ b.segments.take cut.written }
  | .commit .stops => { nv with stops := mergeStops (keepPlaces cut.mask.testBit 0 b.stops) nv.stops }
  | .commit .car => nv
  | .close .profile e => if cut.lineEnd then { nv with segments := writeLineEnd e nv.segments } else nv
  | .close .stops _ => nv
  | .close .car _ => nv
  | .writeCar c => if cut.written = 0 then nv else { nv with config := some c }
  | .programIdentity _ => nv
  | .lock _ => nv
  | .unlock t => if cut.lockCleared then (nv.removeAll t).store t .incomplete none false else nv.removeSome t cut.mask

/-- A batch in PROGRAMMING becomes NONE with its buffer dropped; any other is kept (R175, R180, R181). -/
def Batch.drop (b : Batch) : Batch := if b.state = .programming then Batch.reset else b

/-- The ends at which the LRS sends its record-change notice: an operation that changed a table's state (R174), and the end DONE
of PROGRAM_IDENTITY, a change to the car record with its identity block (R1). A fault of PROGRAM_IDENTITY leaves the record as it
was (R185), and LOCK_TABLE changes no record. -/
def NvOp.notifies (r : NvResult) (op : NvOp) : Bool :=
  match op with
  | .programIdentity _ => r = .done
  | .erase _ => op.marks
  | .commit _ => op.marks
  | .close _ _ => op.marks
  | .writeCar _ => op.marks
  | .lock _ => op.marks
  | .unlock _ => op.marks

/-- The NVC's actions at the end of every operation: none in flight, the operation record, NV_DONE, and the record-change
notice where a record or a table's state was changed (R1, R174). -/
def endOp (op : NvOp) (r : NvResult) (s : State) : State :=
  let t := latch .nvDone (s.onNvc (fun n =>
    { n with op := none, opRec := some { op := op, result := r }, batch := n.batch.drop }))
  if op.notifies r then recompute t else t

/-- The operation ends DONE (R174). -/
def completeOp (f : InFlight) (s : State) : State :=
  endOp f.op .done (s.onNv (Nv.complete f.op s.nvc.batch))

/-- The operation ends NV_FAULT (R174, R175). An UNLOCK_TABLE that does so leaves the depot lock set, however far it had got
(R187); only a full reset can cut it short after the lock was cleared. -/
def faultOp (r : NvResult) (cut : Cut) (f : InFlight) (s : State) : State :=
  endOp f.op r (s.onNv (Nv.cutShort f.op s.nvc.batch { cut with lockCleared := false }))

/-- The operation in flight, if any, cut short with no end of its own, by a full reset (R175). -/
def State.nvAtReset (s : State) (cut : Cut) : Nv :=
  match s.nvc.op with
  | none => s.nv
  | some f => s.nv.cutShort f.op s.nvc.batch cut

/-! ## Verification at START (R193) -/

/-- What the store itself holds of a table: the old state where a verification's write is not confirmed (R193). -/
def TableInfo.stored (i : TableInfo) : TableInfo :=
  match i.unwritten with
  | none => i
  | some u => { state := u.state, check := u.check, lock := i.lock, unwritten := none }

/-- The tables as the store holds them, met by the START after a full reset (R193). -/
def Nv.asStored (nv : Nv) : Nv :=
  { nv with profileT := nv.profileT.stored, stopsT := nv.stopsT.stored, carT := nv.carT.stored }

/-- The state of a table found MISMATCHED: the car record has no CORRUPT (R193). -/
def mismatchState (t : Table) : TableState :=
  match t with
  | .profile => .corrupt
  | .stops => .corrupt
  | .car => .incomplete

/-- The outcome of verifying a table (R193). -/
def Nv.verify (nv : Nv) (t : Table) : VerifyOutcome :=
  if (nv.info t).state ≠ .closed then .notClosed
  else if (nv.info t).check = some (nv.checkWord t) then .matched
  else .mismatched

/-- Verify one table. A mismatch takes it out of CLOSED at once; its write waits while the supply is low (R193). -/
def verifyTable (t : Table) (s : State) : State :=
  let v := s.nv.verify t
  let found := s.tableState t
  let s1 := s.onCtl (Ctl.setVerified t { found := found, outcome := v })
  if v = .mismatched then
    let i := s.nv.info t
    leaveClosed t (s1.onNv (Nv.setInfo t
      { state := mismatchState t, check := none, lock := i.lock,
        unwritten := some { state := i.state, check := i.check, running := !s.nvc.lockout } }))
  else s1

/-- Whether the write of a verification result waits for the supply. -/
def TableInfo.setRunning (r : Bool) (i : TableInfo) : TableInfo :=
  { i with unwritten := i.unwritten.map (fun u => { u with running := r }) }

/-- The writes of verification results begin, or wait, with the supply (R193). -/
def Nv.setRunning (r : Bool) (nv : Nv) : Nv :=
  { nv with profileT := nv.profileT.setRunning r, stopsT := nv.stopsT.setRunning r, carT := nv.carT.setRunning r }

/-- A verification's write is confirmed, or is made again (R193). -/
def TableInfo.confirmWrite (confirmed : Bool) (i : TableInfo) : TableInfo :=
  match i.unwritten with
  | none => i
  | some u => if u.running && confirmed then { i with unwritten := none } else i

end Sys2Proof.Machine
end

