-- ==== Sys2Proof/Machine/ResetStart.lean ====
section
/-! DEFINITION. Reset and start: FULL_RESET, START_SEQUENCE, INPUT_FILTER_SETTLED, VERIFY_WRITE_CONFIRMED, and the band-brake
switches as they settle or change. -/

namespace Sys2Proof.Machine

/-! ## Full reset (R190) -/

/-- A band brake at full reset: APPLYING, APPLIED at once where it is shown applied (R105). -/
def resetBand (l : BandLevels) : BandBrake := BandBrake.startApply l { state := .applying, timer := none, demand := .apply }

/-- The part after a full reset: the nonvolatile store as stored, every volatile item at the value of its chapter, the input lines
and the supply as they stand (R1, R175, R190; log 11). -/
def State.fullReset (cut : Cut) (s : State) : State where
  nv := (s.nvAtReset cut).asStored
  lrs := Lrs.reset
  pou := Pou.reset
  aut := Aut.reset
  ssu := Ssu.reset
  bcu := { Bcu.reset with pb1 := resetBand s.inp.levels.pb1, pb2 := resetBand s.inp.levels.pb2 }
  dcu := Dcu.reset
  vru := Vru.reset
  nvc := { Nvc.reset with lockout := s.nvc.lockout }
  ctl := Ctl.reset
  cmp := Cmp.reset
  inp := { s.inp with settling := some 20 }
  pending := s.pending
  drawn := s.drawn

/-- FULL_RESET (R190). -/
def execFullReset (cut : Cut) (s : State) : Host.Outcome State Fault Refusal := .next (s.fullReset cut)

/-! ## START (R192) -/

/-- Step 2 of START: the radio address latched, the hunt for frames begun (R19, R192). -/
def latchAddress (s : State) : State :=
  let addr := if s.tableState .car = .closed then s.nv.config.map CarConfig.address else none
  s.onVru (fun v => { v with latched := addr, hunting := true, rx := [] })

/-- Step 4 of START: the service settings copied from the car record or the fallback values (R21, R192). -/
def copySettings (s : State) : State :=
  let c := s.cfg
  s.onLrs (fun l => { l with settings :=
    { openDwell := c.openDwell, warnLead := c.warnLead, linkGrace := c.linkGrace, wheelCirc := c.wheelCirc } })

/-- Steps 1 and 3 of START for one table, where it is still to be verified (R192, R193). -/
def verifyIfDue (t : Table) (s : State) : State := if (s.ctl.verified t).isNone then verifyTable t s else s

/-- Step 2 of START, where it is still to be taken. -/
def latchIfDue (s : State) : State := if s.vru.hunting then s else latchAddress s

/-- The steps of START in their order, each that the part's clock has not yet taken (R192, log 12). -/
def startSequence (s : State) : State :=
  let s1 := latchIfDue (verifyIfDue .car s)
  let s2 := copySettings (verifyIfDue .stops (verifyIfDue .profile s1))
  changeMode .ready (s2.onCtl (fun c => { c with startTimer := none }))

/-- How many of the verifications and the latch of the address, in their order, have been done since the reset. -/
def State.startDone (s : State) : Nat :=
  if s.ctl.carV.isNone then 0
  else if !s.vru.hunting then 1
  else if s.ctl.profileV.isNone then 2
  else if s.ctl.stopsV.isNone then 3
  else 4

/-- The next of them. -/
def startNext (s : State) : State :=
  match s.startDone with
  | 0 => verifyTable .car s
  | 1 => latchAddress s
  | 2 => verifyTable .profile s
  | 3 => verifyTable .stops s
  | _ => s

/-- One of them is due by the part's own clock: at 200, 400, 600 and 800 ms after the reset. The rules give no times within the 1 s
(DESIGN CHOICE, log 12). -/
def State.startDue (s : State) : Bool :=
  s.ctl.mode = .start && s.startDone < 4 &&
    match s.ctl.startTimer with
    | none => false
    | some left => 200 * (s.startDone + 1) + left ≤ 1000

/-- What the part's clock does of START in one millisecond: at most one step, so that frames are heard between two of them
(R192, log 12). -/
def startClock (s : State) : State := if s.startDue then kickTransmit (startNext s) else s

/-- START_SEQUENCE, in START; in any other mode there is nothing to carry out (R192, log 12). -/
def execStartSequence (s : State) : Host.Outcome State Fault Refusal :=
  finish (if s.ctl.mode = .start then startSequence s else s)

/-! ## Switches of the band brakes -/

/-- What took a band brake to FAULT. -/
inductive FaultBy where
  | switch | releaseTimer | applyTimer
  deriving DecidableEq, Repr

/-- The reason in the test record of step `n` when band brake `p` enters FAULT: RELEASE_TIMEOUT or APPLY_TIMEOUT for the brake the step
cycles, APPLY_TIMEOUT in step 1, HOLD_LOST for a brake that must hold; a free value where no rule names one (R118 to R120; log
17). -/
def faultReason (n : Nat) (p : Band) (by_ : FaultBy) : TestReason :=
  if cycledBand n = some p then
    match by_ with
    | .releaseTimer => .releaseTimeout (bandChannel p)
    | .applyTimer => .applyTimeout (bandChannel p)
    | .switch => Config.unstatedReason n p
  else if n = 2 || n = 3 || n = 4 then .holdLost (bandChannel p)
  else if n = 1 && by_ = .applyTimer then .applyTimeout (bandChannel p)
  else Config.unstatedReason n p

/-- A band brake enters FAULT, with the reason the running step's record is to give (R107). -/
def faultBand (p : Band) (by_ : FaultBy) (s : State) : State :=
  bandFault p (match s.bcu.test.running with
    | none => .none
    | some n => faultReason n p by_) s

/-- The switches no longer show what the brake's state needs (R105). -/
def BandBrake.switchLost (l : BandLevels) (x : BandBrake) : Bool :=
  match x.state with
  | .applied => !shownApplied l
  | .released => !shownReleased l
  | .releasing => false
  | .applying => false
  | .fault => false

/-- A band brake judged by its switches as they now stand: FAULT, or the movements of an evaluation (R105). -/
def bandSwitched (p : Band) (s : State) : State :=
  if (s.bcu.band p).switchLost (bandLevels s.inp.levels p) then faultBand p .switch s else bcuEval s

/-! ## The input filters settle -/

/-- LOCKED where the closed and lock switches are both made, FAULT otherwise (R124). -/
def LeafRec.settle (l : LeafLevels) (x : LeafRec) : LeafRec := if l.closed && l.lock then x.lockIt else x.toFault

/-- Every leaf takes its state from its switches (R124). -/
def Dcu.settle (i : InputLevels) (d : Dcu) : Dcu :=
  { d with a1 := d.a1.settle i.a1, a2 := d.a2.settle i.a2, b1 := d.b1.settle i.b1, b2 := d.b2.settle i.b2 }

/-- The levels as the filters hold them, 20 ms after the reset: leaves, band brakes and EB availability take them (R99, R101, R105,
R124). -/
def filterSettled (levels : InputLevels) (s : State) : State :=
  let s1 := s.onInp (fun i => { i with levels := levels, settling := none })
  let s2 := doorsSettled (s1.onDcu (Dcu.settle levels))
  settleEb (bandSwitched .pb2 (bandSwitched .pb1 s2))

/-- INPUT_FILTER_SETTLED, once after each full reset (R101, R124). -/
def execInputFilterSettled (levels : InputLevels) (s : State) : Host.Outcome State Fault Refusal :=
  finish (if s.inp.settling.isSome then filterSettled levels s else s)

/-- VERIFY_WRITE_CONFIRMED: the write of a verification's result is confirmed, or is made again (R193). -/
def execVerifyWriteConfirmed (table : Table) (confirmed : Bool) (s : State) : Host.Outcome State Fault Refusal :=
  finish (s.onNv (fun nv => nv.setInfo table ((nv.info table).confirmWrite confirmed)))

end Sys2Proof.Machine
end

