-- ==== Sys2Proof/Machine/BrakeEvents.lean ====
section
/-! DEFINITION. The events of the brake lines and of the BCU's own timers (R101 to R105, R107, R118 to R121). -/

namespace Sys2Proof.Machine

/-- EB_READY_CHANGE: the level counts once the filters have settled; its loss in step 5 ends that step DEGRADED (R101, R121). -/
def execEbReadyChange (present : Bool) (s : State) : Host.Outcome State Fault Refusal :=
  let t := s.onInp (fun i => { i with levels := { i.levels with ebReady := present } })
  finish (if t.bcu.test = .running5 && !present then degradeStep5 t else settleEb t)

/-- A switch of a band brake set to a level. -/
def setBandSwitch (w : BandSwitch) (made : Bool) (l : BandLevels) : BandLevels :=
  match w with
  | .released => { l with released := made }
  | .applied => { l with applied := made }

/-- BAND_SWITCH_CHANGE (R105, R107). -/
def execBandSwitchChange (band : Band) (switch : BandSwitch) (made : Bool) (s : State) :
    Host.Outcome State Fault Refusal :=
  finish (bandSwitched band (s.onInp (fun i =>
    { i with levels := setBandLevels band (setBandSwitch switch made (bandLevels i.levels band)) i.levels })))

/-- RELEASE_TIMER_EXPIRY: a brake still RELEASING enters FAULT (R105). -/
def execReleaseTimerExpiry (band : Band) (s : State) : Host.Outcome State Fault Refusal :=
  finish (if (s.bcu.band band).state = .releasing && (s.bcu.band band).timer.isSome then
    faultBand band .releaseTimer s else s)

/-- APPLY_TIMER_EXPIRY: a brake still APPLYING enters FAULT (R105). -/
def execApplyTimerExpiry (band : Band) (s : State) : Host.Outcome State Fault Refusal :=
  finish (if (s.bcu.band band).state = .applying && (s.bcu.band band).timer.isSome then
    faultBand band .applyTimer s else s)

/-- WB_PRESSURE_CHANGE: the pressure is read again and the BCU evaluates (R104, R118 to R120). -/
def execWbPressureChange (percent : Nat) (s : State) : Host.Outcome State Fault Refusal :=
  finish (bcuEval (s.onInp (fun i => { i with pressure := percent })))

/-- The follow timer runs out while FOLLOWING: WB fault, BRAKE_FAULT, and step 4 fails (R104, R120). -/
def followTimeout (s : State) : State :=
  let t := setWbFault (s.onBcu (fun b => { b with followTimer := none }))
  bcuEval (if t.bcu.test = .running4 then failStep 4 .wbPressure t else t)

/-- FOLLOW_TIMER_EXPIRY (R104). -/
def execFollowTimerExpiry (s : State) : Host.Outcome State Fault Refusal :=
  finish (if s.bcu.follow = .following && s.bcu.followTimer.isSome then followTimeout s else s)

/-- The first band brake that does not hold, for step 1 (R117, R118). -/
def State.bandNotHolding (s : State) : Option Band :=
  if !s.bcu.pb1.testHolds s.inp.levels.pb1 then some .pb1
  else if !s.bcu.pb2.testHolds s.inp.levels.pb2 then some .pb2
  else none

/-- The 1.5 s of step 1 pass: it fails, the first band brake not holding named before the WB (R118). -/
def step1Fails (s : State) : State :=
  let t := if wbTestHolds s.inp.pressure then s else setWbFault s
  bcuEval (match s.bandNotHolding with
    | some p => failStep 1 (.applyTimeout (bandChannel p)) t
    | none => if wbTestHolds s.inp.pressure then progress1 t else failStep 1 .wbPressure t)

/-- STEP1_TIMEOUT (R118). -/
def execStep1Timeout (s : State) : Host.Outcome State Fault Refusal :=
  finish (if s.bcu.test = .running1 && s.bcu.stepTimer.isSome then step1Fails s else s)

/-- Step 5 passes: the degraded mark cleared, the test PASSED (R121). -/
def step5Passes (s : State) : State :=
  bcuEval (settleEb (endStep 5 .passed .none .passed (s.onBcu (fun b => { b with ebDegraded := false }))))

/-- STEP5_WATCH_END: the second of step 5 has passed with EB_READY present; absent, it ends DEGRADED (R121). -/
def execStep5WatchEnd (s : State) : Host.Outcome State Fault Refusal :=
  finish (if s.bcu.test = .running5 && s.bcu.stepTimer.isSome then
    (if s.inp.levels.ebReady then step5Passes s else degradeStep5 s) else s)

end Sys2Proof.Machine
end

