-- ==== Sys2Proof/Machine/Status.lean ====
section
/-! DEFINITION. The items that the status and lookup requests return, in the order their rules list them, at the sizes of R211
(log 14, log 15 and log 62 for what that leaves open). -/

namespace Sys2Proof.Machine

/-! ## Position, supervision, trip (R49, R89, R98) -/

/-- Seek kind, good-spacing count and fault flag, present while SEEKING (R49). -/
def seekItems (e : Engagement) : List Byte :=
  match e with
  | .seeking r => [1#8, r.kind.code, countByte r.good, flagByte r.fault]
  | .disengaged => [0#8, 0#8, 0#8, 0#8]
  | .engaged => [0#8, 0#8, 0#8, 0#8]

/-- READ_POSITION (R49). DEDUCED (log 55): no segment at the pinion point is sent as R211 codes it, by 0 in the two bytes of the index. -/
def State.positionItems (s : State) : List Byte :=
  chainBytes s.pou.cHigh ++ halfBytes (s.pou.fine % 100) ++ pointBytes (lowEnd s.pou.cHigh s.cfg.carLength) ++
    pointBytes s.pinionPoint ++ pointBytes s.readerPoint ++ halfBytes s.pou.u ++ halfBytes s.pou.uBase ++
    quadBytes (s.pou.dR / 100) ++ quadBytes (s.pou.dW / 100) ++ [s.pou.posState.code] ++ halfBytes s.pou.vMeas ++
    [s.pou.motion.code, flagByte s.pou.standstill, s.pou.engagement.state.code] ++ seekItems s.pou.engagement ++
    halfBytes (s.pou.rollback / 100) ++ halfBytes ((s.pinionSegment.map Placed.index).getD 0)

/-- READ_SUPERVISION (R89). DEDUCED (log 50): v_perm is sent once, as the first item of the record of R88. -/
def State.supervisionItems (s : State) : List Byte :=
  [s.ssu.state.code] ++ halfBytes s.ssu.vPerm ++ s.ssu.record.source.bytes ++ optField 3 chainBytes s.ssu.record.target ++
    optField 2 halfBytes s.ssu.record.aEff ++ optField 2 halfBytes s.ssu.record.overBody ++
    halfBytes s.ssu.used.vMeas ++ [directionCode s.ssu.used.dir, ebCode s.ssu.used.eb, s.ssu.used.link.code] ++
    halfBytes s.ssu.used.capValue ++ [byteOf s.ssu.used.cap.num] ++ halfBytes s.cfg.warnMargin ++
    halfBytes s.cfg.intervMargin ++ [countByte s.ssu.used.targets]

/-- The trip record as READ_TRIP carries it: the cause set is one byte, bit k - 1 for cause k (R213). -/
def tripItems (t : TripRecord) : List Byte :=
  [byteOf t.first.num] ++ chainBytes t.cHigh ++ halfBytes t.vMeas ++ halfBytes t.vPerm ++ [byteOf t.set.toNat]

/-- READ_TRIP (R98). -/
def State.tripRequestItems (s : State) : List Byte := optField 9 tripItems s.ssu.trip ++ [s.ssu.state.code]

/-! ## Brakes (R123) -/

/-- State, demand and two switches of a band brake (R123). DEDUCED (log 62): the released switch is sent before the applied switch, 1 for
a switch made. -/
def bandItems (x : BandBrake) (l : BandLevels) : List Byte :=
  [x.state.code, x.demand.code, flagByte l.released, flagByte l.applied]

/-- The test record (R116, R211). -/
def testRecItems (t : TestRecord) : List Byte := halfBytes t.step ++ [t.outcome.code] ++ t.reason.bytes

/-- The numbers of failing conditions, two bytes each, their count first (R111, R123, R197, R211; log 14). -/
def numberItems (l : List Nat) : List Byte := countByte l.length :: (l.map halfBytes).flatten

/-- READ_BRAKES (R123). DESIGN CHOICE (log 61): the numbers of the failing conditions are worked out as the request is taken, the permission
beside them is that of the last evaluation (R110). DEDUCED (log 62): EB_READY is sent as 1 while present. -/
def State.brakeItems (s : State) : List Byte :=
  bandItems s.bcu.pb1 s.inp.levels.pb1 ++ bandItems s.bcu.pb2 s.inp.levels.pb2 ++ [s.bcu.wbDemand.code] ++
    halfBytes s.inp.pressure ++ [s.bcu.follow.code, flagByte s.bcu.wbFault, ebCode s.bcu.ebAvail,
    flagByte s.inp.levels.ebReady, flagByte s.bcu.ebDegraded] ++ halfBytes (if s.bcu.ebDemand then 100 else 0) ++
    [flagByte s.bcu.holdCmd, flagByte s.bcu.holdConf, flagByte s.bcu.driveReq, flagByte s.bcu.permission] ++
    numberItems (s.bcu.failing s.readings) ++ [flagByte s.bcu.traction, s.bcu.test.code] ++
    optField 6 testRecItems s.bcu.testRec

/-! ## Doors (R148) -/

/-- The timer a leaf state runs: open stroke 1, close stroke 2, lock 3, dwell 4, warn lead 5, none 0 (R124, log 15). -/
def LeafRec.timerCode (l : LeafRec) : Byte :=
  if l.timer.isNone then 0#8
  else match l.state with
    | .opening => 1#8
    | .reversing => 1#8
    | .closing => 2#8
    | .locking => 3#8
    | .opened => 4#8
    | .warning => 5#8
    | .locked => 0#8
    | .released => 0#8
    | .fault => 0#8
    | .isolated => 0#8

/-- The items of a leaf in READ_DOORS (R148). DEDUCED (log 62): the switches are sent open end, closed, lock, 1 for a switch made or a
button pressed. -/
def leafItems (l : LeafRec) (i : LeafLevels) : List Byte :=
  [l.state.code, flagByte i.openEnd, flagByte i.closed, flagByte i.lock, flagByte i.button, l.timerCode] ++
    timerBytes l.timer ++ [countByte l.attempts, flagByte l.holdOpen] ++
    optField 2 (fun c => halfBytes c.peak) l.candidate

def sideItems (x : SideRec) : List Byte :=
  [x.mode.code, flagByte x.closingOut, byteOf (x.stop.getD 0), flagByte x.warning]

/-- READ_DOORS (R148). -/
def State.doorItems (s : State) : List Byte :=
  leafItems s.dcu.a1 s.inp.levels.a1 ++ leafItems s.dcu.a2 s.inp.levels.a2 ++ leafItems s.dcu.b1 s.inp.levels.b1 ++
    leafItems s.dcu.b2 s.inp.levels.b2 ++ sideItems s.dcu.sideA ++ sideItems s.dcu.sideB ++ [summaryCode s.dcu.secure]

/-- An obstruction record (R145). -/
def obstructionItems (o : Obstruction) : List Byte := halfBytes o.stroke ++ halfBytes o.peak ++ [countByte o.attempts]

/-- READ_OBSTRUCTION (R148). -/
def leafObstructionItems (l : LeafRec) : List Byte :=
  optField 5 obstructionItems l.obstruction ++ [countByte l.attempts, flagByte l.holdOpen]

/-! ## Link (R168) -/

/-- The last taken record: sequence, kind, outcome and slot. -/
def lastTakenItems (t : LastTaken) : List Byte :=
  [t.seq, t.kind.code, t.outcome.code] ++ optField 1 (fun n => [byteOf n]) t.slot

/-- The report timer as R163 counts it, from 0 up to 2 s; 0 while it is stopped. -/
def Vru.reportElapsed (v : Vru) : Nat :=
  match v.reportTimer with
  | none => 0
  | some left => 2000 - left

/-- READ_LINK (R168). -/
def State.linkItems (s : State) : List Byte :=
  [s.vru.xcvr.code] ++ timerBytes s.vru.restartTimer ++ [s.vru.link.code] ++ timeBytes s.vru.silence ++
    timeBytes (1000 * s.lrs.settings.linkGrace) ++ timeBytes (1000 * s.vru.shadow) ++ timeBytes s.lostLimit ++
    halfBytes (s.vru.latched.getD 0) ++ optField 5 lastTakenItems s.vru.lastTaken ++
    [flagByte s.vru.heardOther, countByte s.vru.queue.length, s.vru.txSeq] ++ timeBytes s.vru.reportElapsed ++
    [countByte s.vru.burstCount, flagByte s.vru.owed.isSome]

/-! ## Tables and mode (R189, R202) -/

/-- The number of records stored in a table; a car record counts as one while its fields are stored (log 23). -/
def Nv.stored (nv : Nv) (t : Table) : Nat :=
  match t with
  | .profile => nv.segments.length
  | .stops => nv.stops.length
  | .car => if nv.config.isSome then 1 else 0

/-- State, records stored, depot lock and check word of a table. -/
def tableItems (nv : Nv) (t : Table) : List Byte :=
  [(nv.info t).state.codeFor t] ++ halfBytes (nv.stored t) ++ [flagByte (nv.info t).lock] ++
    optField 2 (fun w => halfBytes w.toNat) (nv.info t).check

/-- The line end stored in the last profile record (R4). -/
def Nv.lineEnd (nv : Nv) : Option Nat :=
  match nv.segments.getLast? with
  | none => none
  | some g => g.endC

/-- The table a batch names, 0 for none. -/
def batchTable (b : Batch) : Byte :=
  match b.table with
  | none => 0#8
  | some t => tableCode t

/-- The images in the buffer of a batch. -/
def Batch.held (b : Batch) : Nat :=
  match b.table with
  | some .stops => b.stops.length
  | some .profile => b.segments.length
  | some .car => 0
  | none => 0

def inFlightItems (f : InFlight) : List Byte := [f.op.code, tableCode f.op.table] ++ timeBytes f.limit ++ timeBytes f.elapsed

def opRecItems (r : OpRecord) : List Byte := [r.op.code, tableCode r.op.table] ++ r.result.bytes

/-- A profile record as a request shows it: an end is absent except in a CLOSED table (R3, R8). -/
def State.shownSegment (s : State) (g : Segment) : Segment :=
  if s.tableState .profile = .closed then g else { g with endC := none }

/-- The line end as READ_TABLES shows it (R4, R189): absent except in a CLOSED table (log 58). -/
def State.shownLineEnd (s : State) : Option Nat := if s.tableState .profile = .closed then s.nv.lineEnd else none

/-- READ_TABLES (R189). -/
def State.tablesItems (s : State) : List Byte :=
  tableItems s.nv .profile ++ tableItems s.nv .stops ++ tableItems s.nv .car ++ optField 3 chainBytes s.shownLineEnd ++
    [flagByte s.nv.idLock, flagByte s.nvc.runLock, s.nvc.batch.state.code, batchTable s.nvc.batch,
     countByte s.nvc.batch.declared, countByte s.nvc.batch.held] ++
    optField 10 inFlightItems s.nvc.op ++ optField 4 opRecItems s.nvc.opRec ++
    [if s.nvc.lockout then 2#8 else 1#8, flagByte s.inp.key]

/-- The tables that would bar ENTER_SERVICE (R195, R202). -/
def State.barring (s : State) : List Table :=
  [Table.profile, Table.stops, Table.car].filter (fun t => s.tableState t ≠ .closed)

/-- A verification record (R202). -/
def verifiedItems (t : Table) (v : Option Verified) : List Byte :=
  optField 2 (fun x => [x.found.codeFor t, x.outcome.code]) v

/-- READ_MODE (R202). DESIGN CHOICE (log 60): the tables that are not CLOSED are listed in every mode, also where ENTER_SERVICE would be
refused by the mode, or with BUSY, and not by them. -/
def State.modeItems (s : State) : List Byte :=
  [s.ctl.mode.code] ++ timerBytes (if s.ctl.mode = .waking then s.ctl.settle else none) ++
    verifiedItems .profile s.ctl.profileV ++ verifiedItems .stops s.ctl.stopsV ++ verifiedItems .car s.ctl.carV ++
    [flagByte s.nvc.runLock, flagByte (s.ctl.mode = .ready && s.barring.isEmpty)] ++
    countedBytes (s.barring.map tableCode)

/-! ## Lookups (R8, R12, R20, R24, R59, R74, R210) -/

/-- The overflow record: span and limit. -/
def overflowItems (o : Overflow) : List Byte := chainBytes o.start ++ chainBytes o.stop ++ halfBytes o.limit

/-- Whether [lo, hi) contains a chainage. -/
def spanHas (lo hi c : Nat) : Bool := lo ≤ c && c < hi

/-- The restrictions that contain a chainage, each with its slot (R210). -/
def restrictionsAt (c : Nat) : Nat → List Restriction → List (Nat × Restriction)
  | _, [] => []
  | i, r :: rest =>
    if spanHas r.start r.stop c then (i, r) :: restrictionsAt c (i + 1) rest else restrictionsAt c (i + 1) rest

/-- Slot, id, limit, applies and origin of a restriction (R210). -/
def restrictionAtItems (x : Nat × Restriction) : List Byte :=
  [byteOf x.1] ++ halfBytes x.2.id ++ halfBytes x.2.limit ++ [x.2.applies.code, x.2.origin.code]

/-- LOOKUP_AT (R210): stored segment with its index, restrictions with their count first, overflow record with a flag. DEDUCED (log 58): the
segments are those READ_SEGMENT shows, so that the last extent is open except in a CLOSED table. -/
def State.lookupItems (s : State) (c : Nat) : List Byte :=
  let rs := restrictionsAt c 0 s.lrs.restrictions
  optField 17 (fun p => p.seg.image ++ halfBytes p.index) (segmentAt (s.nv.segments.map s.shownSegment) c) ++
    [countByte rs.length] ++ (rs.map restrictionAtItems).flatten ++
    optField 9 (fun o => overflowItems o ++ [flagByte (spanHas o.start o.stop c)]) s.lrs.overflow

/-- READ_SEGMENT (R8). -/
def State.segmentItems (s : State) (g : Segment) : List Byte :=
  (s.shownSegment g).image ++ halfBytes s.nv.segments.length ++ [(s.tableState .profile).code]

/-- FIND_STOP (R12). -/
def State.stopItems (s : State) (p : StopRec) (index : Nat) : List Byte :=
  p.image ++ halfBytes index ++ [flagByte (s.lrs.closure.contains p.number), (s.tableState .stops).code]

/-- READ_RESTRICTION (R59). -/
def State.restrictionItems (s : State) (r : Restriction) : List Byte :=
  r.image ++ [countByte s.lrs.restrictions.length] ++ optField 8 overflowItems s.lrs.overflow

/-- READ_AUTHORITY (R74). -/
def State.authorityItems (s : State) (r : Authority) : List Byte :=
  r.image ++ [countByte s.aut.chain.length] ++ optField 3 chainBytes s.aut.farEnd ++ [directionCode s.aut.selected]

/-- Serial and class. -/
def identityItems (i : Identity) : List Byte := quadBytes i.serial ++ [byteOf i.cls]

/-- The configuration fields as READ_CAR_RECORD and READ_SETTINGS show them: as stored while the record's state is CLOSED, else absent
(R20, R24). DESIGN CHOICE (log 36): CLOSED is the state the record has, which LOCK_TABLE(CAR) and PROGRAM_IDENTITY leave CLOSED (R186),
so that READ_SETTINGS shows the values while one of them runs; R18 counts a record under an operation as not CLOSED. -/
def State.shownConfig (s : State) : Option CarConfig := if s.tableState .car = .closed then s.nv.config else none

/-- READ_CAR_RECORD (R20). -/
def State.carItems (s : State) : List Byte :=
  [(s.tableState .car).carCode] ++ optField 5 identityItems s.nv.identity ++ [flagByte s.nv.idLock] ++
    optField 66 CarConfig.image s.shownConfig ++ halfBytes (s.vru.latched.getD 0)

/-- One service setting beside the value of the car record, absent while its state is not CLOSED (R24; log 36). -/
def settingItems (size : Nat) (bytes : Nat → List Byte) (v : Nat) (stored : Option Nat) : List Byte :=
  bytes v ++ optField size bytes stored

/-- A time held in whole seconds: four bytes in ms (R16, R211). -/
def secondsBytes (n : Nat) : List Byte := timeBytes (1000 * n)

/-- READ_SETTINGS (R24): open dwell, warn lead and link grace are times of R211, the wheel circumference a whole number. -/
def State.settingsItems (s : State) : List Byte :=
  settingItems 4 secondsBytes s.lrs.settings.openDwell (s.shownConfig.map CarConfig.openDwell) ++
    settingItems 4 secondsBytes s.lrs.settings.warnLead (s.shownConfig.map CarConfig.warnLead) ++
    settingItems 4 secondsBytes s.lrs.settings.linkGrace (s.shownConfig.map CarConfig.linkGrace) ++
    settingItems 2 halfBytes s.lrs.settings.wheelCirc (s.shownConfig.map CarConfig.wheelCirc)

end Sys2Proof.Machine
end

