-- ==== Sys2Proof/Machine/StatusRequests.lean ====
section
/-! DEFINITION. The status requests and the requests on the cause set (R194, R209), each served by its owner. -/

namespace Sys2Proof.Machine

/-- A status request that returns items and changes nothing. -/
def report (items : State → List Byte) (s : State) : Owned := doneWith (items s) s

/-- READ_POSITION, code 01 (R49). -/
def execReadPosition (s : State) : Host.Outcome State Fault Refusal := request 0x01#8 true (report State.positionItems) s

/-- READ_SUPERVISION, code 02 (R89). -/
def execReadSupervision (s : State) : Host.Outcome State Fault Refusal :=
  request 0x02#8 true (report State.supervisionItems) s

/-- READ_TRIP, code 03 (R98). -/
def execReadTrip (s : State) : Host.Outcome State Fault Refusal := request 0x03#8 true (report State.tripRequestItems) s

/-- READ_BRAKES, code 04 (R123). -/
def execReadBrakes (s : State) : Host.Outcome State Fault Refusal := request 0x04#8 true (report State.brakeItems) s

/-- READ_DOORS, code 05 (R148). -/
def execReadDoors (s : State) : Host.Outcome State Fault Refusal := request 0x05#8 true (report State.doorItems) s

/-- The obstruction record of a leaf; another leaf name is refused with RANGE (R148). -/
def readObstruction (leaf : Byte) (s : State) : Owned :=
  match leafOf leaf with
  | none => refuse .range s
  | some l => doneWith (leafObstructionItems (s.dcu.leaf l)) s

/-- READ_OBSTRUCTION, code 06 (R148). -/
def execReadObstruction (leaf : Byte) (s : State) : Host.Outcome State Fault Refusal :=
  request 0x06#8 true (readObstruction leaf) s

/-- The link's items; the heard-other flag is cleared after it is returned (R168). -/
def readLink (s : State) : Owned := doneWith s.linkItems (s.onVru (fun v => { v with heardOther := false }))

/-- READ_LINK, code 07 (R168). -/
def execReadLink (s : State) : Host.Outcome State Fault Refusal := request 0x07#8 true readLink s

/-- The keyswitch line as read when a request is taken (R173, R189; log 4). -/
def withKey (key : Bool) (owner : State → Owned) (s : State) : Owned :=
  owner (s.onInp (fun i => { i with key := key }))

/-- READ_TABLES, code 08 (R189). -/
def execReadTables (key : Bool) (s : State) : Host.Outcome State Fault Refusal :=
  request 0x08#8 true (withKey key (report State.tablesItems)) s

/-- READ_MODE, code 09 (R202). -/
def execReadMode (s : State) : Host.Outcome State Fault Refusal := request 0x09#8 true (report State.modeItems) s

/-- The cause set and the enable mask (R209). -/
def State.causeItems (s : State) : List Byte := causeBytes s.cmp.causes ++ causeBytes s.cmp.mask

/-- READ_CAUSES, code 0A (R209). -/
def execReadCauses (s : State) : Host.Outcome State Fault Refusal := request 0x0A#8 true (report State.causeItems) s

/-- The causes of the mask cleared, answered with the set after the clearing (R209). -/
def clearCausesOf (mask : Chain) (s : State) : Owned :=
  let t := clearCauses (causeMask mask) s
  doneWith (causeBytes t.cmp.causes) t

/-- CLEAR_CAUSES, code 0B (R209). -/
def execClearCauses (mask : Chain) (s : State) : Host.Outcome State Fault Refusal :=
  request 0x0B#8 true (clearCausesOf mask) s

/-- The enable mask set, answered with the new mask (R209). -/
def setCauseMaskTo (mask : Chain) (s : State) : Owned :=
  doneWith (causeBytes (causeMask mask)) (setCauseMask (causeMask mask) s)

/-- SET_CAUSE_MASK, code 0C: no status request (R194, R209). -/
def execSetCauseMask (mask : Chain) (s : State) : Host.Outcome State Fault Refusal :=
  request 0x0C#8 false (setCauseMaskTo mask) s

end Sys2Proof.Machine
end

