-- ==== Sys2Proof/Machine/DepotRequests.lean ====
section
/-! DEFINITION. The depot requests (R173 to R187). -/

namespace Sys2Proof.Machine

/-- The five checks before a depot request's own, in order; the keyswitch line is read as the request is taken (R173). -/
def depotGate (key : Bool) (owner : State → Owned) : State → Owned :=
  withKey key (fun s =>
    if s.nvc.runLock then refuse .runLock s
    else if s.ctl.mode ≠ .depot then refuse .mode s
    else if !s.inp.key then refuse .key s
    else if s.nvc.lockout then refuse .supply s
    else if s.nvc.op.isSome then refuse .busy s
    else owner s)

/-- A depot request that names a table; one it does not take is refused with RANGE (R171, R214). -/
def onTable (t : Option Table) (owner : Table → State → Owned) (s : State) : Owned :=
  match t with
  | none => refuse .range s
  | some x => owner x s

/-- The batch is not NONE and names the table (R176, R182, R187). -/
def State.batchNames (s : State) (t : Table) : Bool := s.nvc.batch.state ≠ .none && s.nvc.batch.table = some t

/-- A nonvolatile operation starts, answered DONE at once (R174). -/
def starts (op : NvOp) (s : State) : Owned := doneWith [] (startOp op s)

/-! ## Erasing (R176) -/

/-- ERASE_TABLE as the NVC decides it (R176). -/
def eraseTable (t : Table) (s : State) : Owned :=
  if (s.nv.info t).lock then refuse .locked s
  else if s.batchNames t then refuse .conditions s
  else starts (.erase t) s

/-- ERASE_TABLE, code 50 (R176). -/
def execEraseTable (key : Bool) (table : Byte) (s : State) : Host.Outcome State Fault Refusal :=
  request 0x50#8 false (depotGate key (onTable (tableOf table) eraseTable)) s

/-! ## Batches (R177 to R181) -/

/-- The capacity of a table loaded in batches (R3, R9). -/
def tableCapacity : Table → Nat
  | .profile => 1024
  | .stops => 48
  | .car => 0

/-- The table may take a batch (R177, check 4). -/
def TableState.loadable (st : TableState) : Bool := st = .empty || st = .loading

/-- Change the batch. -/
def onBatch (f : Batch → Batch) (s : State) : State := s.onNvc (fun n => { n with batch := f n.batch })

/-- OPEN_BATCH as the NVC decides it (R177). -/
def openBatch (count : Nat) (t : Table) (s : State) : Owned :=
  if count < 1 || 32 < count then refuse .range s
  else if s.nvc.batch.state = .aborted then refuse .aborted s
  else if s.nvc.batch.state = .opened then refuse .conditions s
  else if !(s.tableState t).loadable then refuse .conditions s
  else if tableCapacity t < s.nv.stored t + count then refuse .full s
  else doneWith [] (onBatch (fun _ =>
    { state := .opened, table := some t, declared := count, segments := [], stops := [] }) s)

/-- OPEN_BATCH, code 51 (R177). -/
def execOpenBatch (key : Bool) (table count : Byte) (s : State) : Host.Outcome State Fault Refusal :=
  request 0x51#8 false (depotGate key (onTable (loadTableOf table) (openBatch count.toNat))) s

/-- The buffer with an image of the batch's table put at its end; `none` where the image is not one, or a field is out of range
(R178, check 3). -/
def Batch.put (image : List Byte) (b : Batch) : Option Batch :=
  match b.table with
  | some .profile => (parseSegment image).map (fun g => { b with segments := b.segments ++ [g] })
  | some .stops => (parseStop image).map (fun p => { b with stops := b.stops ++ [p] })
  | some .car => none
  | none => none

/-- The batch ABORTED, its buffer kept (R178, R179). -/
def abortBatch (s : State) : State := onBatch (fun b => { b with state := .aborted }) s

/-- PUT_RECORD as the NVC decides it (R178). -/
def putRecord (image : List Byte) (s : State) : Owned :=
  if s.nvc.batch.state = .aborted then refuse .aborted s
  else if s.nvc.batch.state ≠ .opened then refuse .conditions s
  else match s.nvc.batch.put image with
  | none => refuse .range s
  | some b =>
    if s.nvc.batch.declared ≤ s.nvc.batch.held then refuse .count (abortBatch s)
    else doneWith [countByte b.held] (onBatch (fun _ => b) s)

/-- PUT_RECORD, code 52; an argument of another length is a bad frame (R178, R205). -/
def execPutRecord (key : Bool) (image : List Byte) (s : State) : Host.Outcome State Fault Refusal :=
  if imageLengthOk image then request 0x52#8 false (depotGate key (putRecord image)) s
  else finish (takeBadFrame s)

/-- The starts rise strictly (R179). -/
def risingStarts : List Segment → Bool
  | [] => true
  | [_] => true
  | g :: h :: rest => g.start < h.start && risingStarts (h :: rest)

/-- No two numbers are the same (R11, R179). -/
def distinctNumbers : List StopRec → Bool
  | [] => true
  | p :: rest => rest.all (fun q => q.number ≠ p.number) && distinctNumbers rest

/-- The first image starts above the last record stored (R179). -/
def continues (stored images : List Segment) : Bool :=
  match stored.getLast?, images.head? with
  | some l, some f => l.start < f.start
  | _, _ => true

/-- The images continue the table's order (R179, check 4). -/
def State.batchOrdered (s : State) : Bool :=
  match s.nvc.batch.table with
  | some .profile => continues s.nv.segments s.nvc.batch.segments && risingStarts s.nvc.batch.segments
  | some .stops => distinctNumbers (s.nv.stops ++ s.nvc.batch.stops)
  | some .car => true
  | none => true

/-- COMMIT_BATCH as the NVC decides it (R179). -/
def commitBatch (s : State) : Owned :=
  if s.nvc.batch.state = .aborted then refuse .aborted s
  else if s.nvc.batch.state ≠ .opened then refuse .conditions s
  else if s.nvc.batch.held < s.nvc.batch.declared then refuse .count (abortBatch s)
  else if !s.batchOrdered then refuse .order (abortBatch s)
  else match s.nvc.batch.table with
  | none => refuse .conditions s
  | some t => starts (.commit t) (onBatch (fun b => { b with state := .programming }) s)

/-- COMMIT_BATCH, code 53 (R179). -/
def execCommitBatch (key : Bool) (s : State) : Host.Outcome State Fault Refusal :=
  request 0x53#8 false (depotGate key commitBatch) s

/-- BATCH_RESET as the NVC decides it (R181). -/
def batchReset (s : State) : Owned :=
  match s.nvc.batch.state with
  | .none => doneWith [] s
  | .opened => doneWith [] (onBatch (fun _ => Batch.reset) s)
  | .aborted => doneWith [] (onBatch (fun _ => Batch.reset) s)
  | .programming => refuse .busy s

/-- BATCH_RESET, code 54 (R181). -/
def execBatchReset (key : Bool) (s : State) : Host.Outcome State Fault Refusal :=
  request 0x54#8 false (depotGate key batchReset) s

/-! ## Closing (R5, R182) -/

/-- Two neighbours, lower then upper, of which one is ADHESION and the other RACK (R5, condition 4). -/
def bridges (below above : SegKind) : Bool :=
  (below = .adhesion && above = .rack) || (below = .rack && above = .adhesion)

/-- Conditions 4 and 5 of R5 over the kinds in rising order; `below` is the kind of the record before, if any. -/
def kindsOk : Option SegKind → List SegKind → Bool
  | _, [] => true
  | below, [k] =>
    (k ≠ .transition) && !(below = some .adhesion && k = .rack) && !(below = some .rack && k = .adhesion)
  | below, k :: next :: rest =>
    (if k = .transition then (match below with
      | none => false
      | some b => bridges b next) else true) &&
    !(below = some .adhesion && k = .rack) && !(below = some .rack && k = .adhesion) &&
    kindsOk (some k) (next :: rest)

/-- Every segment is at least 100 cm long, the last to the line end (R5, condition 2). -/
def lengthsOk (e : Nat) : List Segment → Bool
  | [] => true
  | [g] => g.start + 100 ≤ e
  | g :: h :: rest => g.start + 100 ≤ h.start && lengthsOk e (h :: rest)

/-- The first record is not RACK (R5, condition 3). -/
def firstOk : List Segment → Bool
  | [] => true
  | g :: _ => g.kind ≠ .rack

/-- A well-formed profile table, with the line end given (R5). -/
def profileOk (e : Nat) (segs : List Segment) : Bool :=
  !segs.isEmpty && lengthsOk e segs && firstOk segs && kindsOk none (segs.map Segment.kind)

/-- The line end given for the profile table: absent, or a presence byte other than 0 and 1, is out of range (R182, R211,
R214; log 14). -/
def lineEndOf (present : Byte) (e : Nat) : Option Nat := if present = 1#8 then some e else none

/-- CLOSE_TABLE as the NVC decides it (R182). -/
def closeTable (present : Byte) (e : Nat) (t : Table) (s : State) : Owned :=
  if s.batchNames t then refuse .conditions s
  else if !(s.tableState t).loadable then refuse .conditions s
  else match t with
  | .profile =>
    match lineEndOf present e with
    | none => refuse .range s
    | some x => if profileOk x s.nv.segments then starts (.close .profile x) s else refuse .badStructure s
  | .stops => starts (.close .stops 0) s
  | .car => refuse .range s

/-- CLOSE_TABLE, code 55 (R182). -/
def execCloseTable (key : Bool) (table : Byte) (endPresent : Byte) (lineEnd : Chain) (s : State) :
    Host.Outcome State Fault Refusal :=
  request 0x55#8 false (depotGate key (onTable (loadTableOf table) (closeTable endPresent lineEnd.toNat))) s

/-! ## Car record and identity (R184, R185) -/

/-- WRITE_CAR_RECORD as the NVC decides it (R184). -/
def writeCarRecord (present : Half) (image : List Byte) (s : State) : Owned :=
  if s.nv.carT.lock then refuse .locked s
  else match parseConfig present image with
  | none => refuse .range s
  | some c => starts (.writeCar c) s

/-- WRITE_CAR_RECORD, code 56; an image of another length than 66 is a bad frame (R184, R205). -/
def execWriteCarRecord (key : Bool) (present : Half) (image : List Byte) (s : State) :
    Host.Outcome State Fault Refusal :=
  if image.length = 66 then request 0x56#8 false (depotGate key (writeCarRecord present image)) s
  else finish (takeBadFrame s)

/-- PROGRAM_IDENTITY as the NVC decides it (R15, R185). -/
def programIdentity (serial cls : Nat) (s : State) : Owned :=
  if s.nv.idLock then refuse .locked s
  else if 255 < cls then refuse .range s
  else starts (.programIdentity { serial := serial, cls := cls }) s

/-- PROGRAM_IDENTITY, code 57 (R185). -/
def execProgramIdentity (key : Bool) (serial : Quad) (cls : Half) (s : State) : Host.Outcome State Fault Refusal :=
  request 0x57#8 false (depotGate key (programIdentity serial.toNat cls.toNat)) s

/-! ## Depot locks (R186, R187) -/

/-- LOCK_TABLE as the NVC decides it (R186). -/
def lockTable (t : Table) (s : State) : Owned :=
  if (s.nv.info t).lock then doneWith [] s
  else if s.tableState t ≠ .closed then refuse .conditions s
  else starts (.lock t) s

/-- LOCK_TABLE, code 58 (R186). -/
def execLockTable (key : Bool) (table : Byte) (s : State) : Host.Outcome State Fault Refusal :=
  request 0x58#8 false (depotGate key (onTable (tableOf table) lockTable)) s

/-- UNLOCK_TABLE as the NVC decides it (R187). -/
def unlockTable (t : Table) (s : State) : Owned :=
  if !(s.nv.info t).lock then refuse .conditions s
  else if s.batchNames t then refuse .conditions s
  else starts (.unlock t) s

/-- UNLOCK_TABLE, code 59 (R187). -/
def execUnlockTable (key : Bool) (table : Byte) (s : State) : Host.Outcome State Fault Refusal :=
  request 0x59#8 false (depotGate key (onTable (tableOf table) unlockTable)) s

end Sys2Proof.Machine
end

