-- ==== Sys2Proof/Machine/DoorEvents.lean ====
section
/-! DEFINITION. The events of the door inputs and of the leaf timers (R125, R130 to R134, R141, R144 to R147). -/

namespace Sys2Proof.Machine

/-- Change one leaf. -/
def State.onLeaf (l : Leaf) (f : LeafRec → LeafRec) (s : State) : State := s.onDcu (fun d => d.setLeaf l (f (d.leaf l)))

/-- Change the levels of one leaf's inputs. -/
def State.onLeafLevels (l : Leaf) (f : LeafLevels → LeafLevels) (s : State) : State :=
  s.onInp (fun i => { i with levels := setLeafLevels l (f (leafLevels i.levels l)) i.levels })

/-- A leaf moves, and the outputs, the summary and the BCU follow (R135, R147). -/
def moveLeaf (l : Leaf) (f : LeafRec → LeafRec) (s : State) : State := doorsSettled (s.onLeaf l f)

/-- A leaf enters FAULT: DOOR_EVENT is latched (R134, R147). -/
def faultLeaf (l : Leaf) (s : State) : State := doorsSettled (latch .doorEvent (s.onLeaf l LeafRec.toFault))

/-! ## Buttons -/

/-- What a button edge does to a leaf whose side is in PASSENGER mode with its closing-out mark clear (R130). -/
def LeafRec.press (dwell : Nat) (x : LeafRec) : LeafRec :=
  match x.state with
  | .released => x.toOpening
  | .opened => if x.timer.isSome then x.toDwell dwell else x
  | .warning => x.toDwell dwell
  | .opening => x
  | .closing => x
  | .reversing => x
  | .locking => x
  | .locked => x
  | .fault => x
  | .isolated => x

/-- The side answers to its buttons: PASSENGER mode, closing-out mark clear (R130, R136). -/
def SideRec.hearsButtons (x : SideRec) : Bool := x.mode = .passenger && !x.closingOut

/-- BUTTON_EDGE: the button pressed is one edge; its release changes the level alone (R125, R130; log 26). -/
def execButtonEdge (leaf : Leaf) (pressed : Bool) (s : State) : Host.Outcome State Fault Refusal :=
  let t := s.onLeafLevels leaf (fun i => { i with button := pressed })
  finish (if pressed && (t.dcu.side (sideOfLeaf leaf)).hearsButtons then
    moveLeaf leaf (LeafRec.press t.lrs.settings.openDwell) t else t)

/-! ## Switches -/

/-- OPEN_END_SWITCH: made in OPENING or REVERSING, the leaf reaches OPEN (R130, R131, R133). -/
def execOpenEndSwitch (leaf : Leaf) (made : Bool) (s : State) : Host.Outcome State Fault Refusal :=
  let t := s.onLeafLevels leaf (fun i => { i with openEnd := made })
  let st := (t.dcu.leaf leaf).state
  finish (if made && (st = .opening || st = .reversing) then
    moveLeaf leaf (LeafRec.reachOpen (t.dcu.side (sideOfLeaf leaf)) t.lrs.settings) t else t)

/-- A watched switch is lost: FAULT, and LOCK_LOST while the car moves (R141). -/
def loseWatch (leaf : Leaf) (s : State) : State := tripIf (!s.pou.standstill) .lockLost (faultLeaf leaf s)

/-- The closed switch no longer made (R134, R141). -/
def closedLost (leaf : Leaf) (s : State) : State :=
  match (s.dcu.leaf leaf).state with
  | .locked => loseWatch leaf s
  | .isolated => loseWatch leaf s
  | .released => faultLeaf leaf s
  | .locking => faultLeaf leaf s
  | .opening => s
  | .opened => s
  | .warning => s
  | .closing => s
  | .reversing => s
  | .fault => s

/-- CLOSED_SWITCH_CHANGE: made in CLOSING, the leaf goes LOCKING (R132, R134, R141). DEDUCED (log 6): a switch that stood made before the
leaf entered the state that waits for it counts when a command brings its level again. -/
def execClosedSwitchChange (leaf : Leaf) (made : Bool) (s : State) : Host.Outcome State Fault Refusal :=
  let t := s.onLeafLevels leaf (fun i => { i with closed := made })
  finish (if made then
    (if (t.dcu.leaf leaf).state = .closing then moveLeaf leaf LeafRec.toLocking t else t)
  else closedLost leaf t)

/-- The lock switch made: LOCKING locks, an ISOLATED leaf begins to be watched on it (R132, R141). A lock switch that stood made before
LOCKING counts when a command brings its level again (log 6). -/
def lockMade (leaf : Leaf) (s : State) : State :=
  match (s.dcu.leaf leaf).state with
  | .locking => moveLeaf leaf LeafRec.lockIt s
  | .isolated => s.onLeaf leaf (fun x => { x with lockSeen := true })
  | .locked => s
  | .released => s
  | .opening => s
  | .opened => s
  | .warning => s
  | .closing => s
  | .reversing => s
  | .fault => s

/-- The lock switch no longer made: lost on a LOCKED leaf, or on an ISOLATED leaf on which it has been seen made (R141). -/
def lockLost (leaf : Leaf) (s : State) : State :=
  match (s.dcu.leaf leaf).state with
  | .locked => loseWatch leaf s
  | .isolated => if (s.dcu.leaf leaf).lockSeen then loseWatch leaf s else s
  | .released => s
  | .opening => s
  | .opened => s
  | .warning => s
  | .closing => s
  | .reversing => s
  | .locking => s
  | .fault => s

/-- LOCK_SWITCH_CHANGE (R132, R141). -/
def execLockSwitchChange (leaf : Leaf) (made : Bool) (s : State) : Host.Outcome State Fault Refusal :=
  let t := s.onLeafLevels leaf (fun i => { i with lock := made })
  finish (if made then lockMade leaf t else lockLost leaf t)

/-! ## Timers -/

/-- The leaf's one timer runs in a state (R124). -/
def LeafRec.timing (x : LeafRec) (st : LeafState) : Bool := x.state = st && x.timer.isSome

/-- OPEN_STROKE_TIMEOUT: OPENING or REVERSING longer than 4 s (R134). -/
def execOpenStrokeTimeout (leaf : Leaf) (s : State) : Host.Outcome State Fault Refusal :=
  finish (if (s.dcu.leaf leaf).timing .opening || (s.dcu.leaf leaf).timing .reversing then faultLeaf leaf s else s)

/-- CLOSE_STROKE_TIMEOUT: CLOSING longer than 5 s (R134). -/
def execCloseStrokeTimeout (leaf : Leaf) (s : State) : Host.Outcome State Fault Refusal :=
  finish (if (s.dcu.leaf leaf).timing .closing then faultLeaf leaf s else s)

/-- LOCK_TIMEOUT: LOCKING longer than 1.5 s (R134). -/
def execLockTimeout (leaf : Leaf) (s : State) : Host.Outcome State Fault Refusal :=
  finish (if (s.dcu.leaf leaf).timing .locking then faultLeaf leaf s else s)

/-- DWELL_END: an OPEN leaf whose dwell runs out goes WARNING (R130, R132). -/
def execDwellEnd (leaf : Leaf) (s : State) : Host.Outcome State Fault Refusal :=
  finish (if (s.dcu.leaf leaf).timing .opened then
    moveLeaf leaf (LeafRec.toWarning s.lrs.settings.warnLead) s else s)

/-- WARN_LEAD_END: a WARNING leaf goes CLOSING (R132). -/
def execWarnLeadEnd (leaf : Leaf) (s : State) : Host.Outcome State Fault Refusal :=
  finish (if (s.dcu.leaf leaf).timing .warning then moveLeaf leaf LeafRec.toClosing s else s)

/-! ## Obstruction -/

/-- The stroke position an obstruction record names (R145). -/
def reportStroke (p : ReportPoint) (peakPos confirmPos : Nat) : Nat :=
  match p with
  | .atPeak => peakPos
  | .atFall => confirmPos

/-- The leaf once an obstruction is confirmed at `pos`: count, record, hold-open mark, REVERSING (R145, R146). -/
def LeafRec.obstruct (c : CarConfig) (k : Candidate) (pos : Nat) (x : LeafRec) : LeafRec :=
  { x with attempts := x.attempts + 1, holdOpen := x.holdOpen || c.reopenAttempts ≤ x.attempts + 1,
           obstruction := some { stroke := reportStroke c.reportPoint k.peakPos pos, peak := k.peak,
                                 attempts := x.attempts + 1 } }.toReversing

/-- An obstruction confirmed: DOOR_EVENT, and OBSTRUCTED where the reopen attempts are reached (R145 to R147). -/
def confirmObstruction (leaf : Leaf) (k : Candidate) (pos : Nat) (s : State) : State :=
  let limit := s.cfg.reopenAttempts ≤ (s.dcu.leaf leaf).attempts + 1
  doorsSettled (latchIf limit .obstructed (latch .doorEvent (s.onLeaf leaf (LeafRec.obstruct s.cfg k pos))))

/-- A sample confirms the candidate: at or below P - H, where P - H is above 0 (R144; log 30). -/
def Candidate.fallsBack (k : Candidate) (h current : Nat) : Bool := h < k.peak && current ≤ k.peak - h

/-- The candidate after a sample that does not confirm it: a new peak, and the stall timer restarted by movement or by a current
below T (R144). -/
def Candidate.sample (t current stroke : Nat) (k : Candidate) : Candidate where
  peak := if k.peak < current then current else k.peak
  peakPos := if k.peak < current then stroke else k.peakPos
  lastPos := stroke
  stall := if stroke ≠ k.lastPos || current < t then 200 else k.stall

/-- A sample of a CLOSING leaf within the watched stroke (R144). -/
def takeSample (leaf : Leaf) (current stroke : Nat) (s : State) : State :=
  match (s.dcu.leaf leaf).candidate with
  | none =>
    if s.cfg.threshold ≤ current then
      s.onLeaf leaf (fun x =>
        { x with candidate := some { peak := current, peakPos := stroke, lastPos := stroke, stall := 200 } })
    else s
  | some k =>
    if k.fallsBack s.cfg.hysteresis current then confirmObstruction leaf k stroke s
    else s.onLeaf leaf (fun x => { x with candidate := some (k.sample s.cfg.threshold current stroke) })

/-- The position of a sample as the input last read (R125). -/
def State.onStroke (l : Leaf) (stroke : Nat) (s : State) : State :=
  s.onInp (fun i => { i with strokes := setLeafStroke l stroke i.strokes })

/-- DOOR_SAMPLE: read while the leaf is CLOSING (R125; log 29), and taken from 50 to 950 of the stroke (R144). -/
def execDoorSample (leaf : Leaf) (current stroke : Nat) (s : State) : Host.Outcome State Fault Refusal :=
  finish (if (s.dcu.leaf leaf).state = .closing then
    (if 50 ≤ stroke && stroke ≤ 950 then takeSample leaf current stroke (s.onStroke leaf stroke)
      else s.onStroke leaf stroke)
  else s)

/-- STALL_TIMEOUT: the obstruction is confirmed at the position of the last sample taken (R144, R145), but a leaf that stalls above 950 is
not reversed (R144). DEDUCED (log 59): where the leaf stands is read from the last sample brought, taken or ignored. -/
def execStallTimeout (leaf : Leaf) (s : State) : Host.Outcome State Fault Refusal :=
  finish (match (s.dcu.leaf leaf).candidate with
    | none => s
    | some k =>
      if (s.dcu.leaf leaf).state = .closing && !pastWatch (leafStroke s.inp.strokes leaf) then
        confirmObstruction leaf k k.lastPos s
      else s)

end Sys2Proof.Machine
end

