-- ==== Sys2Proof/Machine/Restrictions.lean ====
section
/-! DEFINITION. What the LRS and the AUT decide on an operation handed to them by the VRU or the Command Port: restrictions and the
overflow record (R50 to R57), closures (R25, R26, R139), grants, shortenings and revocations (R63, R64, R69, R70). -/

namespace Sys2Proof.Machine

/-- An owner's decision: the outcome by its radio name, the slot where one is answered, and the state it leaves. -/
structure Decided where
  outcome : RadioOutcome
  slot    : Option Nat
  state   : State
  deriving DecidableEq, Repr

/-- Refused: nothing changes. -/
def declined (o : RadioOutcome) (s : State) : Decided := { outcome := o, slot := none, state := s }

/-- Taken, with no slot. -/
def granted (s : State) : Decided := { outcome := .taken, slot := none, state := s }

/-! ## Restrictions -/

/-- The order of the restriction list: by start, then by id (R50). -/
def Restriction.before (r q : Restriction) : Bool := r.start < q.start || (r.start = q.start && r.id < q.id)

/-- The list with a record added, or in the place of the one of its id (R51, R52). -/
def placeRestriction (r : Restriction) (l : List Restriction) : List Restriction :=
  insertSorted Restriction.before r (l.filter (fun q => q.id ≠ r.id))

/-- The slot of the record of an id (R51). -/
def slotOf (id : Nat) (l : List Restriction) : Nat := placeOf (fun q => q.id = id) l

/-- The envelope after absorbing a span and limit (R56). -/
def absorb (start stop limit : Nat) : Option Overflow → Overflow
  | none => { start := start, stop := stop, limit := limit }
  | some o => { start := min o.start start, stop := max o.stop stop, limit := min o.limit limit }

/-- A valley restriction folded into the overflow record; OVERFLOW and the notice where that changes it (R53, R56). -/
def absorbRestriction (start stop limit : Nat) (s : State) : State :=
  let o := absorb start stop limit s.lrs.overflow
  if s.lrs.overflow = some o then s
  else recompute (latch .overflow (s.onLrs (fun l => { l with overflow := some o })))

/-- [start, stop) lies on the line of a CLOSED profile table (R50, R52). -/
def State.spanOnLine (s : State) (start stop : Nat) : Bool :=
  match s.line with
  | none => false
  | some (f, e) => f ≤ start && stop ≤ e

/-- The record of an id (R52, R55). -/
def State.restriction (s : State) (id : Nat) : Option Restriction := s.lrs.restrictions.find? (fun r => r.id = id)

/-- The restriction list changed: RESTRICTION_CHANGE and the notice (R51). -/
def restrictionsChanged (l : List Restriction) (s : State) : State :=
  recompute (latch .restrictionChange (s.onLrs (fun x => { x with restrictions := l })))

/-- A RESTRICT as the LRS decides it, the limit clamped before any check (R52, R53). -/
def restrictBy (o : Origin) (id start stop limit : Nat) (applies : Option Applies) (s : State) : Decided :=
  match applies with
  | none => declined .range s
  | some a =>
    let v := min limit 2000
    let r : Restriction := { id := id, start := start, stop := stop, limit := v, applies := a, origin := o }
    let l := placeRestriction r s.lrs.restrictions
    let placed : Decided := { outcome := .taken, slot := some (slotOf id l), state := restrictionsChanged l s }
    if id = 0 || stop ≤ start then declined .range s
    else if !s.spanOnLine start stop then declined .range s
    else match s.restriction id with
    | some q => if q.origin = o then placed else declined .origin s
    | none =>
      if s.lrs.restrictions.length < 24 then placed
      else match o with
      | .crew => declined .full s
      | .valley => declined .full (absorbRestriction start stop v s)

/-- A LIFT as the LRS decides it (R55). -/
def liftBy (o : Origin) (id : Nat) (s : State) : Decided :=
  match s.restriction id with
  | none => declined .unknownId s
  | some q =>
    if q.origin = o then granted (restrictionsChanged (s.lrs.restrictions.filter (fun r => r.id ≠ id)) s)
    else declined .origin s

/-- A FLUSH_OVERFLOW (R57). -/
def flushOverflow (s : State) : Decided :=
  match s.lrs.overflow with
  | none => granted s
  | some _ => granted (recompute (latch .overflow (s.onLrs (fun l => { l with overflow := none }))))

/-! ## Closures -/

/-- The leaves a closure notice returns to LOCKED: those still RELEASED of a side whose release stop is the number (R26,
R139). -/
def Dcu.closeStop (n : Nat) (d : Dcu) : Dcu :=
  let d1 := if d.sideA.stop = some n then d.mapSide .a LeafRec.relock else d
  if d1.sideB.stop = some n then d1.mapSide .b LeafRec.relock else d1

/-- The closure set changed: CLOSURE_CHANGE and the notice (R25). -/
def closureChanged (c : List Nat) (s : State) : State :=
  recompute (latch .closureChange (s.onLrs (fun l => { l with closure := c })))

/-- The stop table is CLOSED, verified since the reset, and holds a stop with the number (R25, R192; log 22). -/
def State.hasStop (s : State) (n : Nat) : Bool :=
  s.nv.stopsT.state = .closed && (s.ctl.verified .stops).isSome && s.nv.stops.any (fun p => p.number = n)

/-- A STOP_CLOSE (R25, R26). -/
def stopCloses (n : Nat) (s : State) : Decided :=
  if s.lrs.closure.contains n then granted s
  else if !s.hasStop n then declined .unknownId s
  else granted (doorsSettled ((closureChanged (s.lrs.closure ++ [n]) s).onDcu (Dcu.closeStop n)))

/-- A STOP_OPEN (R25). -/
def stopOpens (n : Nat) (s : State) : Decided :=
  if s.lrs.closure.contains n then granted (closureChanged (s.lrs.closure.filter (fun k => k ≠ n)) s)
  else if s.hasStop n then granted s
  else declined .unknownId s

/-! ## Authority -/

/-- A record's start and end stand as its direction requires (R60, R63). -/
def runsAlong (d : Direction) (start stop : Nat) : Bool :=
  match d with
  | .up => start < stop
  | .down => stop < start

/-- The record's extent contains the worst-case span (R63, check 5a). -/
def State.spanWithin (s : State) (r : Authority) : Bool := r.lo ≤ s.spanLow && s.spanHigh < r.hi

/-- The record a GRANT offers, with the time and occupation it is appended with; the cap is clamped (R63, R64). -/
def State.offered (s : State) (id start stop : Nat) (d : Direction) (cap expiry : Nat) : Authority where
  id := id
  start := start
  stop := stop
  dir := d
  cap := min cap 2000
  expiry := expiry
  leftMs := if expiry = 0 then none else some (expiry * 1000)
  occupation := if beyond d s.front start then .occupied else .ahead

/-- Checks 5a and 5b: the record joins the chain, or contains the car where the chain is empty (R63). -/
def State.joins (s : State) (r : Authority) : Bool :=
  match s.aut.farEnd with
  | none => s.spanWithin r
  | some e => r.start = e

/-- A GRANT as the AUT decides it (R63, R64). -/
def grantRecord (id start stop : Nat) (dir : Option Direction) (cap expiry : Nat) (s : State) : Decided :=
  if s.ctl.mode ≠ .service then declined .mode s
  else match dir with
  | none => declined .range s
  | some d =>
    let r := s.offered id start stop d cap expiry
    if id = 0 || !runsAlong d start stop || !s.onLine start || !s.onLine stop || 600 < expiry ||
        s.aut.chain.any (fun q => q.id = id) then declined .range s
    else if d ≠ s.aut.selected then declined .direction s
    else if 6 ≤ s.aut.chain.length then declined .full s
    else if !s.joins r then declined .gap s
    else granted (chainChanged (s.aut.chain ++ [r]) s)

/-- The new end lies strictly beyond the start and at or before the end (R69). -/
def Authority.mayEndAt (r : Authority) (e : Nat) : Bool :=
  match r.dir with
  | .up => r.start < e && e ≤ r.stop
  | .down => r.stop ≤ e && e < r.start

/-- The record of an id in the chain. -/
def Aut.recordOf (a : Aut) (id : Nat) : Option Authority := a.chain.find? (fun r => r.id = id)

/-- The records before the one of an id. -/
def Aut.recordsBefore (a : Aut) (id : Nat) : List Authority := a.chain.take (placeOf (fun r => r.id = id) a.chain)

/-- A SHORTEN as the AUT decides it (R69). -/
def shortenRecord (id newEnd : Nat) (s : State) : Decided :=
  if s.ctl.mode ≠ .service then declined .mode s
  else match s.aut.recordOf id with
  | none => declined .unknownId s
  | some r =>
    if r.mayEndAt newEnd then granted (chainChanged (s.aut.recordsBefore id ++ [{ r with stop := newEnd }]) s)
    else declined .range s

/-- A REVOKE as the AUT decides it (R70). -/
def revokeRecord (id : Nat) (s : State) : Decided :=
  if s.ctl.mode ≠ .service then declined .mode s
  else match s.aut.recordOf id with
  | none => declined .unknownId s
  | some _ => granted (chainChanged (s.aut.recordsBefore id) s)

end Sys2Proof.Machine
end

