-- ==== Sys2Proof/Machine/LineRequests.lean ====
section
/-! DEFINITION. The requests on settings, position, direction, restrictions, trip, drive and brake test (R22, R23, R37, R52 to R55,
R62, R96, R111, R117 to R121). -/

namespace Sys2Proof.Machine

/-! ## SET_SETTING (R22, R23) -/

/-- The modes SERVICE and DEPOT. -/
def Mode.onTheMove : Mode → Bool
  | .service => true
  | .depot => true
  | .ready => false
  | .parked => false
  | .start => false
  | .waking => false

/-- The value a setting takes: clamped to its range, an odd link grace lowered by one (R16, R22). -/
def Setting.clamp (x : Setting) (v : Nat) : Nat :=
  match x with
  | .openDwell => clampTo 3 60 v
  | .warnLead => clampTo 0 5 v
  | .linkGrace => clampTo 0 30 v / 2 * 2
  | .wheelCirc => clampTo 15000 40000 v

/-- A setting changed (R22). -/
def Settings.set (x : Setting) (v : Nat) (g : Settings) : Settings :=
  match x with
  | .openDwell => { g with openDwell := v }
  | .warnLead => { g with warnLead := v }
  | .linkGrace => { g with linkGrace := v }
  | .wheelCirc => { g with wheelCirc := v }

/-- All channels applied: both bands APPLIED, WB at HOLD or more, standstill (R22). -/
def State.channelsApplied (s : State) : Bool :=
  s.bcu.pb1.state = .applied && s.bcu.pb2.state = .applied && s.bcu.wbDemand ≠ .off && s.pou.standstill

/-- SET_SETTING as the LRS decides it; a new link grace is compared with the silence at once (R22, R23). -/
def setSetting (setting : Byte) (value : Nat) (s : State) : Owned :=
  if !s.ctl.mode.onTheMove then refuse .mode s
  else match settingOf setting with
  | none => refuse .range s
  | some x =>
    if !s.channelsApplied then refuse .heldRequired s
    else
      let t := s.onLrs (fun l => { l with settings := l.settings.set x (x.clamp value) })
      doneWith (halfBytes (x.clamp value)) (if x = .linkGrace then judgeLink t else t)

/-- SET_SETTING, code 20 (R22). -/
def execSetSetting (setting : Byte) (value : Half) (s : State) : Host.Outcome State Fault Refusal :=
  request 0x20#8 false (setSetting setting value.toNat) s

/-! ## SET_POSITION (R37) -/

/-- The modes READY, SERVICE and DEPOT. -/
def Mode.notParked : Mode → Bool
  | .ready => true
  | .service => true
  | .depot => true
  | .parked => false
  | .start => false
  | .waking => false

/-- The C_high given is out of range, or puts an end of the car off the line of a CLOSED table (R37). -/
def State.offRange (s : State) (c : Nat) : Bool :=
  c < s.cfg.carLength || 16777215 < c ||
    (s.tableState .profile = .closed && !(s.onLine c && s.onLine (lowEnd c s.cfg.carLength)))

/-- The position placed by the crew (R37). -/
def Pou.setPosition (c uSet : Nat) (p : Pou) : Pou :=
  { (p.place (c * 100) uSet).zeroRollback with posState := .known, engagement := .disengaged, prevSeg := none }

/-- SET_POSITION as the POU decides it (R37). -/
def setPosition (c : Nat) (s : State) : Owned :=
  if !s.ctl.mode.notParked then refuse .mode s
  else if !s.pou.standstill then refuse .moving s
  else if s.ctl.mode ≠ .depot && s.pou.posState = .known then refuse .conditions s
  else if s.offRange c then refuse .range s
  else doneWith (chainBytes c ++ halfBytes s.cfg.uSet) (s.onPou (Pou.setPosition c s.cfg.uSet))

/-- SET_POSITION, code 21 (R37). -/
def execSetPosition (cHigh : Chain) (s : State) : Host.Outcome State Fault Refusal :=
  request 0x21#8 false (setPosition cHigh.toNat) s

/-! ## SELECT_DIRECTION (R62) -/

/-- SELECT_DIRECTION as the AUT decides it (R47, R62). DEDUCED (log 49): standstill is read as the POU holds it at that moment, not as the
last position update carried it. -/
def selectDirection (dir : Byte) (s : State) : Owned :=
  if !s.ctl.mode.notParked then refuse .mode s
  else match directionOf dir with
  | none => refuse .range s
  | some d =>
    if !s.pou.standstill then refuse .moving s
    else if !s.aut.chain.isEmpty then refuse .notEmpty s
    else doneWith [] (recompute ((s.onAut (fun a => { a with selected := d })).onPou Pou.zeroRollback))

/-- SELECT_DIRECTION, code 22 (R62). -/
def execSelectDirection (dir : Byte) (s : State) : Host.Outcome State Fault Refusal :=
  request 0x22#8 false (selectDirection dir) s

/-! ## Crew restrictions (R52 to R55) -/

/-- A refusal of the LRS by its Command Port name. -/
def crewReason (o : RadioOutcome) : Reason :=
  match o with
  | .full => .full
  | .unknownId => .unknownId
  | .origin => .origin
  | .mode => .mode
  | .range => .range
  | .gap => .range
  | .direction => .range
  | .taken => .none

/-- The LRS's decision as an answer to the crew: TAKEN is DONE (R52, R55, R160). -/
def crewAnswer (d : Decided) : Owned :=
  if d.outcome = .taken then doneWith (d.slot.toList.map byteOf) d.state else refuse (crewReason d.outcome) d.state

/-- RESTRICT of the crew, code 23 (R52, R54). -/
def execRestrict (id : Half) (start stop : Chain) (limit : Half) (applies : Byte) (s : State) :
    Host.Outcome State Fault Refusal :=
  request 0x23#8 false
    (fun t => crewAnswer (restrictBy .crew id.toNat start.toNat stop.toNat limit.toNat (appliesOf applies) t)) s

/-- LIFT of the crew, code 24 (R54, R55). -/
def execLift (id : Half) (s : State) : Host.Outcome State Fault Refusal :=
  request 0x24#8 false (fun t => crewAnswer (liftBy .crew id.toNat t)) s

/-! ## TRIP_RESET (R96) -/

/-- The state TRIP is left for: the first column of R90 with v_meas 0 (R96). -/
def State.afterTrip (s : State) : SupState := indicated 0 s.ssu.vPerm s.cfg.warnMargin s.cfg.intervMargin

/-- TRIP left: the record absent, the state set and handed to the BCU (R96). -/
def leaveTrip (s : State) : State :=
  bcuEval (setSupState s.afterTrip (s.onSsu (fun u => { u with trip := none })))

/-- TRIP_RESET as the SSU decides it (R96). DEDUCED (log 51): the DONE carries the supervision state outside TRIP as well. -/
def tripReset (s : State) : Owned :=
  if !s.pou.standstill then refuse .moving s
  else
    let t := if s.ssu.state = .trip then leaveTrip s else s
    doneWith [t.ssu.state.code] t

/-- TRIP_RESET, code 25 (R96). -/
def execTripReset (s : State) : Host.Outcome State Fault Refusal := request 0x25#8 false tripReset s

/-! ## DRIVE_REQUEST (R111) -/

/-- The drive request set, and the BCU's evaluation (R100, R111, R112). -/
def setDrive (on : Bool) (s : State) : State := bcuEval (s.onBcu (fun b => { b with driveReq := on }))

/-- DRIVE_REQUEST as the BCU decides it (R111). -/
def driveRequest (on : Byte) (s : State) : Owned :=
  match onOffOf on with
  | none => refuse .range s
  | some false => doneWith [] (setDrive false s)
  | some true =>
    if !s.ctl.mode.onTheMove then refuse .mode s
    else if s.bcu.test.running.isSome then refuse .busy s
    else if !(s.bcu.failing s.readings).isEmpty then
      refuseWith .conditions (numberItems (s.bcu.failing s.readings)) s
    else doneWith [] (setDrive true s)

/-- DRIVE_REQUEST, code 26 (R111). -/
def execDriveRequest (on : Byte) (s : State) : Host.Outcome State Fault Refusal :=
  request 0x26#8 false (driveRequest on) s

/-! ## BRAKE_TEST (R117 to R121) -/

/-- The step that may follow a test state (R117). -/
def TestState.nextStep : TestState → Nat
  | .notDone => 1
  | .failed => 1
  | .passed => 1
  | .passedDegraded => 1
  | .step1Passed => 2
  | .step2Passed => 3
  | .step3Passed => 4
  | .step4Passed => 5
  | .running1 => 0
  | .running2 => 0
  | .running3 => 0
  | .running4 => 0
  | .running5 => 0

/-- The conditions of a test step (R117, check 3). -/
def State.testAllowed (s : State) : Bool :=
  s.ctl.mode.onTheMove && s.pou.standstill && s.dcu.secure && s.ssu.state ≠ .trip && !s.bcu.driveReq

/-- The cycled brake is released: by its demand, or commanded from FAULT (R105, R119). -/
def BandBrake.releaseForTest (l : BandLevels) (x : BandBrake) : BandBrake :=
  let y := { x with demand := .release }
  match x.state with
  | .fault => y.startRelease l
  | .applied => y
  | .releasing => y
  | .released => y
  | .applying => y

/-- Steps 2 and 3 begin (R119). -/
def startCycle (st : TestState) (p : Band) (s : State) : State :=
  s.onBcu (fun b => { b.setBand p ((b.band p).releaseForTest (bandLevels s.inp.levels p)) with test := st })

/-- A step starts, and may end at once (R118 to R121). -/
def startStep (n : Nat) (s : State) : State :=
  match n with
  | 1 => bcuEval (s.onBcu (fun b =>
      { b with test := .running1, stepTimer := some 1500, pb1 := { b.pb1 with demand := .apply },
               pb2 := { b.pb2 with demand := .apply } }))
  | 2 => bcuEval (startCycle .running2 .pb1 s)
  | 3 => bcuEval (startCycle .running3 .pb2 s)
  | 4 => bcuEval (s.onBcu (fun b => { b with test := .running4, step4Hold := false }))
  | _ =>
    let t := s.onBcu (fun b => { b with test := .running5, stepTimer := some 1000 })
    if s.inp.levels.ebReady then bcuEval t else degradeStep5 t

/-- BRAKE_TEST as the BCU decides it (R117). -/
def brakeTest (n : Nat) (s : State) : Owned :=
  if s.bcu.test.running.isSome then refuse .busy s
  else if n ≠ s.bcu.test.nextStep then refuse .sequence s
  else if !s.testAllowed then refuse .conditions s
  else doneWith (halfBytes n) (startStep n s)

/-- BRAKE_TEST, code 27 (R117). -/
def execBrakeTest (step : Byte) (s : State) : Host.Outcome State Fault Refusal :=
  request 0x27#8 false (brakeTest step.toNat) s

end Sys2Proof.Machine
end

