-- ==== Sys2Proof/Machine/DoorRequests.lean ====
section
/-! DEFINITION. The requests on the doors and the radio (R127 to R129, R136, R137, R142, R143, R150, R151). -/

namespace Sys2Proof.Machine

/-! ## DOOR_RELEASE (R126 to R129) -/

/-- The leaves of a side, in the order of their codes. -/
def leavesOf : Side → List Leaf
  | .a => [.a1, .a2]
  | .b => [.b1, .b2]

/-- A leaf of the side is out in its cycle (R127, check 4). -/
def State.sideInCycle (s : State) (x : Side) : Bool := (leavesOf x).any (fun l => (s.dcu.leaf l).state.inCycle)

/-- The leaf's worst-case span lies wholly inside one window of the stop (R126, R128). -/
def State.leafFits (s : State) (p : StopRec) (l : Leaf) : Bool :=
  p.windows.any (fun w => leafInside s.pou.last.cHigh s.pou.last.u s.cfg.carLength (s.cfg.leaf l) w)

/-- Release the leaves of a list, each in the mode named. -/
def Dcu.releaseLeaves (m : ReleaseMode) (ls : List Leaf) (d : Dcu) : Dcu :=
  ls.foldl (fun x l => x.setLeaf l ((x.leaf l).release m)) d

/-- The side takes the mode and loses its closing-out mark; its release stop changes where `stop` says so (R127 to R129). -/
def Dcu.releaseSide (x : Side) (m : ReleaseMode) (stop : Option Nat) (d : Dcu) : Dcu :=
  d.setSide x { d.side x with mode := m, closingOut := false, stop := stop }

/-- The LOCKED leaves of a side that satisfy a condition. -/
def State.lockedLeaves (s : State) (x : Side) (fits : Leaf → Bool) : List Leaf :=
  (leavesOf x).filter (fun l => (s.dcu.leaf l).state = .locked && fits l)

/-- The leaves released, with the side's mode, mark and release stop. -/
def releaseOn (x : Side) (m : ReleaseMode) (ls : List Leaf) (stop : Option Nat) (s : State) : State :=
  doorsSettled (s.onDcu (fun d => (d.releaseSide x m stop).releaseLeaves m ls))

/-- The list of leaves a response carries, its count first (R128, R129; log 14). -/
def leafList (ls : List Leaf) : List Byte := countedBytes (ls.map leafCode)

/-- The release in SERVICE, at the stop the platform lookup finds (R13, R128). -/
def releaseAtStop (x : Side) (m : ReleaseMode) (s : State) : Owned :=
  match platformLookup s.lineStops s.lrs.closure x s.spanLow s.spanHigh s.pou.last.u with
  | .none => refuse .noStop s
  | .closed _ => refuse .closed s
  | .found p =>
    let ls := s.lockedLeaves x (s.leafFits p)
    let stop := if ls.isEmpty then (s.dcu.side x).stop else some p.number
    doneWith (byteOf p.number :: leafList ls) (releaseOn x m ls stop s)

/-- The release in DEPOT (R129). -/
def releaseInDepot (x : Side) (m : ReleaseMode) (s : State) : Owned :=
  let ls := s.lockedLeaves x (fun _ => true)
  doneWith (leafList ls) (releaseOn x m ls none s)

/-- DOOR_RELEASE of a named side and mode (R127). -/
def releaseSide (x : Side) (m : ReleaseMode) (s : State) : Owned :=
  if s.bcu.test.running.isSome then refuse .busy s
  else if !s.pou.standstill || !s.bcu.holdConf || s.ssu.state = .trip then refuse .conditions s
  else if s.ctl.mode = .service && s.pou.last.posState ≠ .known then refuse .conditions s
  else if s.sideInCycle x && (s.dcu.side x).mode ≠ m then refuse .conditions s
  else if s.ctl.mode = .service then releaseAtStop x m s
  else releaseInDepot x m s

/-- DOOR_RELEASE as the DCU decides it (R127, R214). -/
def doorRelease (side mode : Byte) (s : State) : Owned :=
  if !s.ctl.mode.onTheMove then refuse .mode s
  else match sideOf side, releaseModeOf mode with
  | some x, some m => releaseSide x m s
  | _, _ => refuse .range s

/-- DOOR_RELEASE, code 30 (R127). -/
def execDoorRelease (side mode : Byte) (s : State) : Host.Outcome State Fault Refusal :=
  request 0x30#8 false (doorRelease side mode) s

/-! ## DOOR_WITHDRAW and DOOR_CLOSE (R136, R137) -/

/-- A request on a side, taken in SERVICE and DEPOT (R136, R137, R214). -/
def sideRequest (side : Byte) (act : Side → State → State) (s : State) : Owned :=
  if !s.ctl.mode.onTheMove then refuse .mode s
  else match sideOf side with
  | none => refuse .range s
  | some x => doneWith [] (act x s)

/-- DOOR_WITHDRAW, code 31 (R136). -/
def execDoorWithdraw (side : Byte) (s : State) : Host.Outcome State Fault Refusal :=
  request 0x31#8 false (sideRequest side withdrawSide) s

/-- Close one side (R137). -/
def closeSide (x : Side) (s : State) : State :=
  doorsSettled (s.onDcu (fun d => d.closeSide x s.lrs.settings.warnLead))

/-- DOOR_CLOSE, code 32 (R137). -/
def execDoorClose (side : Byte) (s : State) : Host.Outcome State Fault Refusal :=
  request 0x32#8 false (sideRequest side closeSide) s

/-! ## DOOR_ISOLATE and DOOR_RESTORE (R142, R143) -/

/-- A leaf that DOOR_ISOLATE takes (R142, check 3). -/
def LeafState.mayIsolate : LeafState → Bool
  | .locked => true
  | .released => true
  | .fault => true
  | .opening => false
  | .opened => false
  | .warning => false
  | .closing => false
  | .reversing => false
  | .locking => false
  | .isolated => false

/-- The leaf ISOLATED: DOOR_EVENT (R142, R147). -/
def isolateLeaf (l : Leaf) (s : State) : State :=
  doorsSettled (latch .doorEvent (s.onLeaf l (LeafRec.isolate (leafLevels s.inp.levels l).lock)))

/-- DOOR_ISOLATE as the DCU decides it (R142, R214). -/
def doorIsolate (leaf : Byte) (s : State) : Owned :=
  match leafOf leaf with
  | none => refuse .range s
  | some l =>
    if !s.pou.standstill then refuse .moving s
    else if (s.dcu.leaf l).state = .isolated then doneWith [] s
    else if !(s.dcu.leaf l).state.mayIsolate || !(leafLevels s.inp.levels l).closed then refuse .conditions s
    else doneWith [] (isolateLeaf l s)

/-- DOOR_ISOLATE, code 33 (R142). -/
def execDoorIsolate (leaf : Byte) (s : State) : Host.Outcome State Fault Refusal :=
  request 0x33#8 false (doorIsolate leaf) s

/-- The leaf LOCKED; leaving ISOLATED latches DOOR_EVENT (R143, R147). -/
def restoreLeaf (l : Leaf) (s : State) : State :=
  doorsSettled (latchIf ((s.dcu.leaf l).state = .isolated) .doorEvent (s.onLeaf l LeafRec.lockIt))

/-- DOOR_RESTORE as the DCU decides it (R143, R214). -/
def doorRestore (leaf : Byte) (s : State) : Owned :=
  match leafOf leaf with
  | none => refuse .range s
  | some l =>
    if !s.pou.standstill then refuse .moving s
    else if (s.dcu.leaf l).state ≠ .isolated && (s.dcu.leaf l).state ≠ .fault then refuse .conditions s
    else if !(leafLevels s.inp.levels l).closed || !(leafLevels s.inp.levels l).lock then refuse .conditions s
    else doneWith [] (restoreLeaf l s)

/-- DOOR_RESTORE, code 34 (R143). -/
def execDoorRestore (leaf : Byte) (s : State) : Host.Outcome State Fault Refusal :=
  request 0x34#8 false (doorRestore leaf) s

/-! ## RADIO_HOLD and RADIO_RESTART (R150, R151) -/

/-- The transceiver held or released (R150, R152). -/
def holdRadio (on : Bool) (s : State) : State :=
  match on, s.vru.xcvr with
  | true, .on => s.onVru (Vru.switchOff .held none)
  | true, .restarting => s.onVru (Vru.switchOff .held none)
  | true, .held => s
  | false, .held => transceiverOn false s
  | false, .on => s
  | false, .restarting => s

/-- RADIO_HOLD as the VRU decides it (R150, R214). -/
def radioHold (on : Byte) (s : State) : Owned :=
  if !s.ctl.mode.notParked then refuse .mode s
  else match onOffOf on with
  | none => refuse .range s
  | some b =>
    let t := holdRadio b s
    doneWith [t.vru.xcvr.code] t

/-- RADIO_HOLD, code 38 (R150). -/
def execRadioHold (on : Byte) (s : State) : Host.Outcome State Fault Refusal := request 0x38#8 false (radioHold on) s

/-- RADIO_RESTART as the VRU decides it (R151). -/
def radioRestart (s : State) : Owned :=
  if !s.ctl.mode.notParked then refuse .mode s
  else match s.vru.xcvr with
  | .on => doneWith [] (s.onVru (Vru.switchOff .restarting (some 1000)))
  | .restarting => refuse .busy s
  | .held => refuse .conditions s

/-- RADIO_RESTART, code 39 (R151). -/
def execRadioRestart (s : State) : Host.Outcome State Fault Refusal := request 0x39#8 false radioRestart s

end Sys2Proof.Machine
end

