-- ==== Sys2Proof/Machine/Frames.lean ====
section
/-! DEFINITION. Radio frames received: the hunt (R153, R154), sorting by address (R155), duplicates and answers (R157, R158), and
each valley kind handed to its owner (R156, R159). -/

namespace Sys2Proof.Machine

/-! ## The hunt -/

/-- The VRU examines bytes: the transceiver is ON and step 2 of START has been passed (R150, R153, R192). -/
def Vru.listens (v : Vru) : Bool := v.xcvr = .on && v.hunting

/-- The bytes of the frame in progress. -/
def setRx (bytes : List Byte) (s : State) : State := s.onVru (fun v => { v with rx := bytes })

/-- FRAME_DISCARDED: the hunt resumes; nothing else changes (R153, R154). -/
def execFrameDiscarded (_reason : DiscardReason) (s : State) : Host.Outcome State Fault Refusal :=
  finish (if s.vru.listens then setRx [] s else s)

/-- FRAME_GAP_TIMEOUT: the hunt resumes with the byte that ended the gap, which may be a start byte (R153). -/
def execFrameGapTimeout (next : Byte) (s : State) : Host.Outcome State Fault Refusal :=
  finish (if s.vru.listens then setRx (if next = 0xA5#8 then [next] else []) s else s)

/-! ## Sorting by address -/

/-- How a good frame is sorted (R155). -/
inductive Addressed where
  | directed | broadcast | other
  deriving DecidableEq, Repr

/-- The car address against the latched address (R155). -/
def Vru.sort (addr : Byte) (v : Vru) : Addressed :=
  if addr = 0#8 then .broadcast else if v.latched = some addr.toNat then .directed else .other

/-- A directed or broadcast good frame makes the link UP and the silence 0 (R156, R165). -/
def heard (s : State) : State := changeLink .up (s.onVru (fun v => { v with silence := 0, rx := [] }))

/-- A good frame of another address sets the heard-other flag and goes no further (R155). -/
def heardOther (s : State) : State := s.onVru (fun v => { v with heardOther := true, rx := [] })

/-- FOREIGN_FRAME (R155). -/
def execForeignFrame (addr : Byte) (s : State) : Host.Outcome State Fault Refusal :=
  finish (if s.vru.listens && s.vru.sort addr = .other then heardOther s else s)

/-- CAR_KIND_FRAME: a car kind or an unknown kind makes the link UP and goes no further (R156). -/
def execCarKindFrame (addr _kind : Byte) (s : State) : Host.Outcome State Fault Refusal :=
  finish (if !s.vru.listens then s
    else match s.vru.sort addr with
    | .other => heardOther s
    | .broadcast => heard s
    | .directed => heard s)

/-! ## Directed and broadcast frames -/

/-- The answer to a duplicate: the stored ANSWER, or a new REPORT where the stored kind is PROBE (R158, R159). -/
def Vru.repeatAnswer (r : LastTaken) (v : Vru) : Vru :=
  match r.kind with
  | .probe => v.queueReport .probe (some r.seq)
  | .grant => v.queueAnswer r
  | .shorten => v.queueAnswer r
  | .revoke => v.queueAnswer r
  | .restrict => v.queueAnswer r
  | .lift => v.queueAnswer r
  | .flushOverflow => v.queueAnswer r
  | .stopClose => v.queueAnswer r
  | .stopOpen => v.queueAnswer r

/-- The last taken record holds the sequence (R158). -/
def Vru.duplicate (seq : Byte) (v : Vru) : Option LastTaken := v.lastTaken.filter (fun r => r.seq = seq)

/-- A frame processed: the last taken record becomes its own, and its ANSWER is queued (R158, R160). -/
def answered (seq : Byte) (kind : ValleyKind) (d : Decided) : State :=
  let r : LastTaken := { seq := seq, kind := kind, outcome := d.outcome, slot := d.slot }
  d.state.onVru (fun v => { v with lastTaken := some r }.queueAnswer r)

/-- A good frame of a valley kind other than PROBE: sorted, the link made UP, then handed to its owner, new if directed, or taken
from a broadcast where the kind is (R155 to R158). -/
def valleyFrame (addr seq : Byte) (kind : ValleyKind) (fromBroadcast : Bool) (owner : State → Decided) (s : State) : State :=
  if !s.vru.listens then s
  else match s.vru.sort addr with
  | .other => heardOther s
  | .broadcast => if fromBroadcast then (owner (heard s)).state else heard s
  | .directed =>
    let t := heard s
    match t.vru.duplicate seq with
    | some r => t.onVru (fun v => v.repeatAnswer r)
    | none => answered seq kind (owner t)

/-- RESTRICT, LIFT and FLUSH_OVERFLOW are answered MODE in START (R54). -/
def notInStart (owner : State → Decided) (s : State) : Decided :=
  if s.ctl.mode = .start then declined .mode s else owner s

/-- GRANT (R63, R64). -/
def execGrant (addr seq : Byte) (id : Half) (start stop : Chain) (dir : Byte) (cap expiry : Half) (s : State) :
    Host.Outcome State Fault Refusal :=
  finish (valleyFrame addr seq .grant false
    (grantRecord id.toNat start.toNat stop.toNat (directionOf dir) cap.toNat expiry.toNat) s)

/-- SHORTEN (R69). -/
def execShorten (addr seq : Byte) (id : Half) (newEnd : Chain) (s : State) : Host.Outcome State Fault Refusal :=
  finish (valleyFrame addr seq .shorten false (shortenRecord id.toNat newEnd.toNat) s)

/-- REVOKE (R70). -/
def execRevoke (addr seq : Byte) (id : Half) (s : State) : Host.Outcome State Fault Refusal :=
  finish (valleyFrame addr seq .revoke false (revokeRecord id.toNat) s)

/-- RESTRICT of valley control (R52 to R54). -/
def execRestrictFrame (addr seq : Byte) (id : Half) (start stop : Chain) (limit : Half) (applies : Byte) (s : State) :
    Host.Outcome State Fault Refusal :=
  finish (valleyFrame addr seq .restrict true
    (notInStart (restrictBy .valley id.toNat start.toNat stop.toNat limit.toNat (appliesOf applies))) s)

/-- LIFT of valley control (R54, R55). -/
def execLiftFrame (addr seq : Byte) (id : Half) (s : State) : Host.Outcome State Fault Refusal :=
  finish (valleyFrame addr seq .lift true (notInStart (liftBy .valley id.toNat)) s)

/-- FLUSH_OVERFLOW (R54, R57). -/
def execFlushOverflow (addr seq : Byte) (s : State) : Host.Outcome State Fault Refusal :=
  finish (valleyFrame addr seq .flushOverflow true (notInStart flushOverflow) s)

/-- STOP_CLOSE (R25, R26). -/
def execStopClose (addr seq number : Byte) (s : State) : Host.Outcome State Fault Refusal :=
  finish (valleyFrame addr seq .stopClose true (stopCloses number.toNat) s)

/-- STOP_OPEN (R25). -/
def execStopOpen (addr seq number : Byte) (s : State) : Host.Outcome State Fault Refusal :=
  finish (valleyFrame addr seq .stopOpen true (stopOpens number.toNat) s)

/-- A broadcast PROBE: one report owed, 40 ms for each address below; none while the latched address is none (R159). -/
def Vru.oweReport (v : Vru) : Vru :=
  match v.owed, v.latched with
  | none, some a => { v with owed := some (40 * a) }
  | none, none => v
  | some _, _ => v

/-- A directed PROBE: sequence 0 is always processed and leaves the last taken record; any other follows R158 (R159). -/
def probeDirected (seq : Byte) (s : State) : State :=
  if seq = 0#8 then s.onVru (fun v => v.queueReport .probe (some seq))
  else match s.vru.duplicate seq with
  | some r => s.onVru (fun v => v.repeatAnswer r)
  | none =>
    s.onVru (fun v => { v with lastTaken := some { seq := seq, kind := .probe, outcome := .taken, slot := none } }.queueReport
      .probe (some seq))

/-- PROBE (R159). -/
def execProbe (addr seq : Byte) (s : State) : Host.Outcome State Fault Refusal :=
  finish (if !s.vru.listens then s
    else match s.vru.sort addr with
    | .other => heardOther s
    | .broadcast => (heard s).onVru Vru.oweReport
    | .directed => probeDirected seq (heard s))

end Sys2Proof.Machine
end

