-- ==== Sys2Proof/Machine/LinkEvents.lean ====
section
/-! DEFINITION. The events of the authority timers, of the link's silence and of the VRU's own timers (R67, R151, R159, R163 to
R166). -/

namespace Sys2Proof.Machine

/-- The record at a slot waits AHEAD with its timer running (R67). -/
def Aut.mayExpire (a : Aut) (slot : Nat) : Bool :=
  match a.chain[slot]? with
  | none => false
  | some r => r.occupation = .ahead && r.leftMs.isSome

/-- RECORD_EXPIRY: the record and every record after it are retired (R67). -/
def execRecordExpiry (slot : Nat) (s : State) : Host.Outcome State Fault Refusal :=
  finish (if s.aut.mayExpire slot then chainChanged (s.aut.chain.take slot) s else s)

/-- The silence stands at least at a value, and the link is judged by it (R165). -/
def silenceReaches (ms : Nat) (s : State) : State :=
  judgeLink (s.onVru (fun v => { v with silence := max v.silence ms }))

/-- SILENCE_REACHES_4S (R165). -/
def execSilenceReaches4s (s : State) : Host.Outcome State Fault Refusal :=
  finish (if s.vru.link = .up then silenceReaches 4000 s else s)

/-- SILENCE_REACHES_LOST_LIMIT (R165, R166). -/
def execSilenceReachesLostLimit (s : State) : Host.Outcome State Fault Refusal :=
  finish (if s.vru.link = .lost then s else silenceReaches s.lostLimit s)

/-- REPORT_TIMER_EXPIRY: a periodic REPORT, and the timer starts again (R163). -/
def execReportTimerExpiry (s : State) : Host.Outcome State Fault Refusal :=
  finish (if s.vru.reportTimer.isSome then s.onVru (fun v => (v.queueReport .periodic none).startReport) else s)

/-- The burst count falls by one; at 0 the report timer starts again where the link is UP or SILENT (R164). -/
def Vru.burstOne (v : Vru) : Vru :=
  let n := v.burstCount - 1
  if n = 0 then
    { v with burstCount := 0, burstTimer := none,
             reportTimer := if v.link = .up || v.link = .silent then some 2000 else none }
  else { v with burstCount := n, burstTimer := some 500 }

/-- BURST_TIMER_EXPIRY: another TRIP_BURST REPORT (R164). -/
def execBurstTimerExpiry (s : State) : Host.Outcome State Fault Refusal :=
  finish (if s.vru.burstTimer.isSome then s.onVru (fun v => (v.queueReport .tripBurst none).burstOne) else s)

/-- BROADCAST_REPORT_DELAY: the owed REPORT is queued (R159). -/
def execBroadcastReportDelay (s : State) : Host.Outcome State Fault Refusal :=
  finish (if s.vru.owed.isSome then
    s.onVru (fun v => { v.queueReport .broadcastProbe none with owed := none }) else s)

/-- RESTART_TIMER_EXPIRY: the transceiver becomes ON (R151, R152). -/
def execRestartTimerExpiry (s : State) : Host.Outcome State Fault Refusal :=
  finish (if s.vru.xcvr = .restarting && s.vru.restartTimer.isSome then transceiverOn false s else s)

/-- CAR_FRAME_SENT: the last byte has gone, and the next waiting frame begins (R161). -/
def execCarFrameSent (s : State) : Host.Outcome State Fault Refusal :=
  finish (if s.vru.sending.isSome then s.onVru (fun v => { v with sending := none, sendTimer := none }) else s)

end Sys2Proof.Machine
end

