-- ==== Sys2Proof/Machine/LookupRequests.lean ====
section
/-! DEFINITION. The lookup requests of the car computer: reads of the records as stored (R2, R8, R12, R20, R24, R59, R74,
R210). -/

namespace Sys2Proof.Machine

/-- A Command Port read of a table, refused with BUSY while the table is under an operation (R2). -/
def readOf (t : Table) (owner : State → Owned) (s : State) : Owned :=
  if s.underOperation t then refuse .busy s else owner s

/-- LOOKUP_AT, code 10 (R210). -/
def execLookupAt (chainage : Chain) (s : State) : Host.Outcome State Fault Refusal :=
  request 0x10#8 false (readOf .profile (report (fun t => t.lookupItems chainage.toNat))) s

/-- The segment record stored at an index (R8). -/
def readSegment (index : Nat) (s : State) : Owned :=
  match s.nv.segments[index]? with
  | none => refuse .range s
  | some g => doneWith (s.segmentItems g) s

/-- READ_SEGMENT, code 11 (R8). -/
def execReadSegment (index : Half) (s : State) : Host.Outcome State Fault Refusal :=
  request 0x11#8 false (readOf .profile (readSegment index.toNat)) s

/-- The stop record with a number (R12). -/
def findStop (number : Nat) (s : State) : Owned :=
  match s.nv.stops.find? (fun p => p.number = number) with
  | none => refuse .unknownId s
  | some p => doneWith (s.stopItems p (placeOf (fun q => q.number = number) s.nv.stops)) s

/-- FIND_STOP, code 12 (R12). -/
def execFindStop (number : Byte) (s : State) : Host.Outcome State Fault Refusal :=
  request 0x12#8 false (readOf .stops (findStop number.toNat)) s

/-- The restriction record at a slot (R59). -/
def readRestriction (slot : Nat) (s : State) : Owned :=
  match s.lrs.restrictions[slot]? with
  | none => refuse .range s
  | some r => doneWith (s.restrictionItems r) s

/-- READ_RESTRICTION, code 13 (R59). -/
def execReadRestriction (slot : Byte) (s : State) : Host.Outcome State Fault Refusal :=
  request 0x13#8 false (readRestriction slot.toNat) s

/-- The authority record at a slot (R74). -/
def readAuthority (slot : Nat) (s : State) : Owned :=
  match s.aut.chain[slot]? with
  | none => refuse .range s
  | some r => doneWith (s.authorityItems r) s

/-- READ_AUTHORITY, code 14 (R74). -/
def execReadAuthority (slot : Byte) (s : State) : Host.Outcome State Fault Refusal :=
  request 0x14#8 false (readAuthority slot.toNat) s

/-- READ_CAR_RECORD, code 15 (R20). -/
def execReadCarRecord (s : State) : Host.Outcome State Fault Refusal :=
  request 0x15#8 false (readOf .car (report State.carItems)) s

/-- READ_SETTINGS, code 16: the settings are a volatile part, so no operation bars it (R2, R24; log 36). -/
def execReadSettings (s : State) : Host.Outcome State Fault Refusal :=
  request 0x16#8 false (report State.settingsItems) s

end Sys2Proof.Machine
end

