-- ==== Sys2Proof/Machine/ModeRequests.lean ====
section
/-! DEFINITION. The requests that change the mode (R195 to R200). -/

namespace Sys2Proof.Machine

/-- The tables that bar SERVICE, each with its state, their count first (R195; log 14). -/
def State.barringItems (s : State) : List Byte :=
  countByte s.barring.length :: (s.barring.map (fun t => [tableCode t, (s.tableState t).codeFor t])).flatten

/-- ENTER_SERVICE as the mode controller decides it (R195). -/
def enterService (s : State) : Owned :=
  if s.ctl.mode ≠ .ready then refuse .mode s
  else if !s.barring.isEmpty then refuseWith .tables s.barringItems s
  else doneWith [] (changeMode .service s)

/-- ENTER_SERVICE, code 40 (R195). -/
def execEnterService (s : State) : Host.Outcome State Fault Refusal := request 0x40#8 false enterService s

/-- ENTER_DEPOT as the mode controller decides it (R196). -/
def enterDepot (s : State) : Owned :=
  if s.ctl.mode ≠ .ready then refuse .mode s
  else if !s.inp.key then refuse .key s
  else doneWith [] (changeMode .depot s)

/-- ENTER_DEPOT, code 41 (R196). -/
def execEnterDepot (key : Bool) (s : State) : Host.Outcome State Fault Refusal :=
  request 0x41#8 false (withKey key enterDepot) s

/-- The numbers of the conditions of PARK that fail (R197). -/
def State.parkFailing (s : State) : List Nat :=
  (if s.pou.standstill then [] else [1]) ++ (if s.bcu.holdConf then [] else [2]) ++ (if s.dcu.secure then [] else [3])

/-- The chain emptied at the park: AUTHORITY_CHANGE where it held a record (R198). -/
def emptyChain (s : State) : State :=
  latchIf (!s.aut.chain.isEmpty) .authorityChange (s.onAut (fun a => { a with chain := [] }))

/-- What a park gives up: the chain, the transceiver, then the mode with its hand-overs, then the test (R198, R122). -/
def parkCar (s : State) : State :=
  let t := changeMode .parked ((emptyChain s).onVru (Vru.switchOff .held none))
  bcuEval (t.onBcu (fun b => { b with test := .notDone, testRec := none }))

/-- PARK as the mode controller decides it (R197, R198). -/
def park (s : State) : Owned :=
  if s.ctl.mode ≠ .service then refuse .mode s
  else if !s.parkFailing.isEmpty then refuseWith .conditions (numberItems s.parkFailing) s
  else doneWith [] (parkCar s)

/-- PARK, code 42 (R197). -/
def execPark (s : State) : Host.Outcome State Fault Refusal := request 0x42#8 false park s

/-- WAKE at the POU: U raised by the allowance, D_r and D_w zeroed (R38, R200). -/
def Pou.wake (allowance : Nat) (p : Pou) : Pou :=
  let u := min (p.u + allowance) 65535
  { p with uBase := u, dR := 0, dW := 0, u := u }

/-- WAKE: WAKING with its 2 s settle timer, U raised, the transceiver ON (R200; the order is log 35). -/
def wakeCar (s : State) : State :=
  let t := (s.onCtl (fun c => { c with settle := some 2000 })).onPou (Pou.wake s.cfg.wakeAllowance)
  changeMode .waking (transceiverOn true t)

/-- WAKE as the mode controller decides it (R200). -/
def wake (s : State) : Owned :=
  if s.ctl.mode ≠ .parked then refuse .mode s else doneWith [] (wakeCar s)

/-- WAKE, code 43 (R200). -/
def execWake (s : State) : Host.Outcome State Fault Refusal := request 0x43#8 false wake s

end Sys2Proof.Machine
end

