-- ==== Sys2Proof/Machine/PortEvents.lean ====
section
/-! DEFINITION. The Command Port's own transactions: reading the response, bad and unknown frames, the response becoming ready
(R204 to R207). -/

namespace Sys2Proof.Machine

/-- READ_TRANSACTION: `clocks` bytes clocked out, and the transaction's end where `ends` (R204; log 24). -/
def execReadTransaction (clocks : Nat) (ends : Bool) (s : State) : Host.Outcome State Fault Refusal :=
  finish (s.onCmp (Cmp.read clocks ends))

/-- BAD_FRAME (R205). -/
def execBadFrame (s : State) : Host.Outcome State Fault Refusal := finish (takeBadFrame s)

/-- UNKNOWN_REQUEST (R205). -/
def execUnknownRequest (code : Byte) (s : State) : Host.Outcome State Fault Refusal :=
  finish (answerFrame code unknownAnswer (clockZeros s))

/-- The response of the request in progress becomes the waiting one, and no request is in progress (R206). -/
def Cmp.respond (p : Cmp) : Cmp :=
  match p.inProgress with
  | none => p
  | some r => { p with inProgress := none }.setWaiting (responseFrame r.code r.answer)

/-- RESPONSE_READY (R206). -/
def execResponseReady (s : State) : Host.Outcome State Fault Refusal := finish (s.onCmp Cmp.respond)

end Sys2Proof.Machine
end

