-- ==== Sys2Proof/Machine/PositionEvents.lean ====
section
/-! DEFINITION. The events of the position inputs and of the POU's own times (R28 to R48). -/

namespace Sys2Proof.Machine

/-- A wheel pulse sets the last direction and ends standstill; it is counted, or adds to the silence distance while ENGAGED
(R28, R29, R33, R44). -/
def wheelPulse (dir : Direction) (s : State) : State :=
  let t := endStandstill (s.onPou (fun p => { p with lastDir := dir }))
  if t.engaged then wheelWhileEngaged t.wheelDist t else countWheel t.wheelDist t

/-- WHEEL_PULSE (R28). -/
def execWheelPulse (dir : Direction) (s : State) : Host.Outcome State Fault Refusal := finish (wheelPulse dir s)

/-- The good spacing that makes the pinion ENGAGED has been reached (R41). -/
def Seek.meshed (r : Seek) : Bool := 8 ≤ r.good

/-- A pinion pulse while SEEKING: the spacing is checked, and the eighth good one makes the pinion ENGAGED (R41, R42). -/
def pinionWhileSeeking (r : Seek) (s : State) : State :=
  let q := r.pulse s.cfg.rackPitch
  if q.meshed then engage q.kind s else s.onPou (fun p => { p with engagement := .seeking q })

/-- A pinion pulse while ENGAGED is counted and ends the silence (R29, R44, R47, R48). -/
def pinionWhileEngaged (s : State) : State :=
  reportRollback (countPulse true s.cfg.rackPitch (s.onPou (fun p => { p with silenceDist := 0 })))

/-- A pinion pulse ends standstill; what else it does turns on the engagement (R28, R29, R33, R41). -/
def pinionPulse (s : State) : State :=
  let t := endStandstill s
  match t.pou.engagement with
  | .engaged => pinionWhileEngaged t
  | .seeking r => pinionWhileSeeking r t
  | .disengaged => t

/-- PINION_PULSE (R29). -/
def execPinionPulse (s : State) : Host.Outcome State Fault Refusal := finish (pinionPulse s)

/-- The markers within U + 100 cm of the reader point (R14, R45). -/
def State.markersNear (s : State) : List (Nat × Nat) := markerLookup s.lineStops s.readerPoint (s.pou.u + 100)

/-- A marker pulse: ignored while UNKNOWN; one marker found fixes the position, none or several latch a cause (R45). -/
def markerPulse (s : State) : State :=
  if s.pou.posState = .unknown then s
  else
    match s.markersNear with
    | [] => latch .unexpectedMarker s
    | [m] => markerFix m.2 s
    | _ :: _ :: _ => latch .ambiguousMarker s

/-- MARKER_PULSE (R45). -/
def execMarkerPulse (s : State) : Host.Outcome State Fault Refusal := finish (markerPulse s)

/-- STANDSTILL_DECLARED: 1 s has passed without a pulse (R33; log 3). -/
def execStandstillDeclared (s : State) : Host.Outcome State Fault Refusal :=
  finish (if s.pou.standstill then s else declareStandstill s)

/-- The first record whose remaining time has run out while AHEAD is retired with every record after it (R67). -/
def expireRecords (s : State) : State :=
  let live := s.aut.chain.takeWhile (fun r => !r.expired)
  if live.length = s.aut.chain.length then s else chainChanged live s

/-- What the time up to an update has brought that a rule orders against the update: the expiry of a record, which comes before the
occupation that this update would find (R67, R68); the silence reaching the limit that stood until this update reads S again (R165,
R166); and standstill, which this update publishes (R33, R34). DESIGN CHOICE (log 2): where several have come they are taken in this
order, and the events of every other timer are taken after the update. -/
def beforeUpdate (s : State) : State :=
  let t := judgeLink (expireRecords s)
  if t.standstillDue then declareStandstill t else t

/-- POSITION_UPDATE: the time to the next 20 ms boundary passes, with what it brings before the update; then the update is formed and
published, and its receivers act (R34; log 2). -/
def execPositionUpdate (s : State) : Host.Outcome State Fault Refusal :=
  finish (actOnUpdate (publish (beforeUpdate (elapse s.toUpdate s))))

end Sys2Proof.Machine
end

