-- ==== Sys2Proof/Machine/SupplyEvents.lean ====
section
/-! DEFINITION. The events of the supply monitor, of the nonvolatile store and of the settle timer (R174, R175, R193, R201). -/

namespace Sys2Proof.Machine

/-- The supply falls below the threshold: an operation in flight ends NV_FAULT, and a verification's write waits (R175,
R193). -/
def supplyLockout (cut : Cut) (s : State) : State :=
  let t := (s.onNvc (fun n => { n with lockout := true })).onNv (Nv.setRunning false)
  match t.nvc.op with
  | none => t
  | some f => faultOp .faultSupply cut f t

/-- SUPPLY_LOCKOUT (R175). -/
def execSupplyLockout (cut : Cut) (s : State) : Host.Outcome State Fault Refusal :=
  finish (if s.nvc.lockout then s else supplyLockout cut s)

/-- SUPPLY_NORMAL: depot requests are taken again, and a waiting verification's write is made (R175, R193). -/
def execSupplyNormal (s : State) : Host.Outcome State Fault Refusal :=
  finish ((s.onNvc (fun n => { n with lockout := false })).onNv (Nv.setRunning true))

/-- NV_WRITE_CONFIRMED: the last write of the operation is confirmed within its limit, and it ends DONE (R174). -/
def execNvWriteConfirmed (s : State) : Host.Outcome State Fault Refusal :=
  finish (match s.nvc.op with
    | none => s
    | some f => if f.elapsed ≤ f.limit then completeOp f s else s)

/-- NV_TIME_LIMIT: the operation is stopped at its limit (R174). -/
def execNvTimeLimit (cut : Cut) (s : State) : Host.Outcome State Fault Refusal :=
  finish (match s.nvc.op with
    | none => s
    | some f => faultOp .faultTime cut f s)

/-- SETTLE_TIMER_EXPIRY: WAKING ends in SERVICE (R201). -/
def execSettleTimerExpiry (s : State) : Host.Outcome State Fault Refusal :=
  finish (if s.ctl.mode = .waking && s.ctl.settle.isSome then
    changeMode .service (s.onCtl (fun c => { c with settle := none })) else s)

end Sys2Proof.Machine
end

