-- ==== Sys2Proof/Machine/Dispatch.lean ====
section
/-! DEFINITION. What each command does to everything but the queue: one arm for each row of spec/opcode_table.json, in its order. -/

namespace Sys2Proof.Machine

def exec (i : Instr) (s : State) : Host.Outcome State Fault Refusal :=
  match i with
  | .fullReset cut => Sys2Proof.Machine.execFullReset cut s
  | .startSequence => Sys2Proof.Machine.execStartSequence s
  | .inputFilterSettled levels => Sys2Proof.Machine.execInputFilterSettled levels s
  | .verifyWriteConfirmed table confirmed => Sys2Proof.Machine.execVerifyWriteConfirmed table confirmed s
  | .wheelPulse dir => Sys2Proof.Machine.execWheelPulse dir s
  | .pinionPulse => Sys2Proof.Machine.execPinionPulse s
  | .markerPulse => Sys2Proof.Machine.execMarkerPulse s
  | .standstillDeclared => Sys2Proof.Machine.execStandstillDeclared s
  | .positionUpdate => Sys2Proof.Machine.execPositionUpdate s
  | .ebReadyChange present => Sys2Proof.Machine.execEbReadyChange present s
  | .bandSwitchChange band switch made => Sys2Proof.Machine.execBandSwitchChange band switch made s
  | .releaseTimerExpiry band => Sys2Proof.Machine.execReleaseTimerExpiry band s
  | .applyTimerExpiry band => Sys2Proof.Machine.execApplyTimerExpiry band s
  | .wbPressureChange percent => Sys2Proof.Machine.execWbPressureChange percent s
  | .followTimerExpiry => Sys2Proof.Machine.execFollowTimerExpiry s
  | .step1Timeout => Sys2Proof.Machine.execStep1Timeout s
  | .step5WatchEnd => Sys2Proof.Machine.execStep5WatchEnd s
  | .buttonEdge leaf pressed => Sys2Proof.Machine.execButtonEdge leaf pressed s
  | .openEndSwitch leaf made => Sys2Proof.Machine.execOpenEndSwitch leaf made s
  | .closedSwitchChange leaf made => Sys2Proof.Machine.execClosedSwitchChange leaf made s
  | .lockSwitchChange leaf made => Sys2Proof.Machine.execLockSwitchChange leaf made s
  | .openStrokeTimeout leaf => Sys2Proof.Machine.execOpenStrokeTimeout leaf s
  | .closeStrokeTimeout leaf => Sys2Proof.Machine.execCloseStrokeTimeout leaf s
  | .lockTimeout leaf => Sys2Proof.Machine.execLockTimeout leaf s
  | .dwellEnd leaf => Sys2Proof.Machine.execDwellEnd leaf s
  | .warnLeadEnd leaf => Sys2Proof.Machine.execWarnLeadEnd leaf s
  | .doorSample leaf current stroke => Sys2Proof.Machine.execDoorSample leaf current stroke s
  | .stallTimeout leaf => Sys2Proof.Machine.execStallTimeout leaf s
  | .recordExpiry slot => Sys2Proof.Machine.execRecordExpiry slot s
  | .silenceReaches4s => Sys2Proof.Machine.execSilenceReaches4s s
  | .silenceReachesLostLimit => Sys2Proof.Machine.execSilenceReachesLostLimit s
  | .reportTimerExpiry => Sys2Proof.Machine.execReportTimerExpiry s
  | .burstTimerExpiry => Sys2Proof.Machine.execBurstTimerExpiry s
  | .broadcastReportDelay => Sys2Proof.Machine.execBroadcastReportDelay s
  | .restartTimerExpiry => Sys2Proof.Machine.execRestartTimerExpiry s
  | .carFrameSent => Sys2Proof.Machine.execCarFrameSent s
  | .frameDiscarded reason => Sys2Proof.Machine.execFrameDiscarded reason s
  | .frameGapTimeout next => Sys2Proof.Machine.execFrameGapTimeout next s
  | .foreignFrame addr => Sys2Proof.Machine.execForeignFrame addr s
  | .carKindFrame addr kind => Sys2Proof.Machine.execCarKindFrame addr kind s
  | .grant addr seq id start stop dir cap expiry => Sys2Proof.Machine.execGrant addr seq id start stop dir cap expiry s
  | .shorten addr seq id newEnd => Sys2Proof.Machine.execShorten addr seq id newEnd s
  | .revoke addr seq id => Sys2Proof.Machine.execRevoke addr seq id s
  | .restrictFrame addr seq id start stop limit applies => Sys2Proof.Machine.execRestrictFrame addr seq id start stop limit applies s
  | .liftFrame addr seq id => Sys2Proof.Machine.execLiftFrame addr seq id s
  | .flushOverflow addr seq => Sys2Proof.Machine.execFlushOverflow addr seq s
  | .stopClose addr seq number => Sys2Proof.Machine.execStopClose addr seq number s
  | .stopOpen addr seq number => Sys2Proof.Machine.execStopOpen addr seq number s
  | .probe addr seq => Sys2Proof.Machine.execProbe addr seq s
  | .supplyLockout cut => Sys2Proof.Machine.execSupplyLockout cut s
  | .supplyNormal => Sys2Proof.Machine.execSupplyNormal s
  | .nvWriteConfirmed => Sys2Proof.Machine.execNvWriteConfirmed s
  | .nvTimeLimit cut => Sys2Proof.Machine.execNvTimeLimit cut s
  | .settleTimerExpiry => Sys2Proof.Machine.execSettleTimerExpiry s
  | .readTransaction clocks ends => Sys2Proof.Machine.execReadTransaction clocks ends s
  | .badFrame => Sys2Proof.Machine.execBadFrame s
  | .unknownRequest code => Sys2Proof.Machine.execUnknownRequest code s
  | .responseReady => Sys2Proof.Machine.execResponseReady s
  | .readPosition => Sys2Proof.Machine.execReadPosition s
  | .readSupervision => Sys2Proof.Machine.execReadSupervision s
  | .readTrip => Sys2Proof.Machine.execReadTrip s
  | .readBrakes => Sys2Proof.Machine.execReadBrakes s
  | .readDoors => Sys2Proof.Machine.execReadDoors s
  | .readObstruction leaf => Sys2Proof.Machine.execReadObstruction leaf s
  | .readLink => Sys2Proof.Machine.execReadLink s
  | .readTables key => Sys2Proof.Machine.execReadTables key s
  | .readMode => Sys2Proof.Machine.execReadMode s
  | .readCauses => Sys2Proof.Machine.execReadCauses s
  | .clearCauses mask => Sys2Proof.Machine.execClearCauses mask s
  | .setCauseMask mask => Sys2Proof.Machine.execSetCauseMask mask s
  | .lookupAt chainage => Sys2Proof.Machine.execLookupAt chainage s
  | .readSegment index => Sys2Proof.Machine.execReadSegment index s
  | .findStop number => Sys2Proof.Machine.execFindStop number s
  | .readRestriction slot => Sys2Proof.Machine.execReadRestriction slot s
  | .readAuthority slot => Sys2Proof.Machine.execReadAuthority slot s
  | .readCarRecord => Sys2Proof.Machine.execReadCarRecord s
  | .readSettings => Sys2Proof.Machine.execReadSettings s
  | .setSetting setting value => Sys2Proof.Machine.execSetSetting setting value s
  | .setPosition cHigh => Sys2Proof.Machine.execSetPosition cHigh s
  | .selectDirection dir => Sys2Proof.Machine.execSelectDirection dir s
  | .restrict id start stop limit applies => Sys2Proof.Machine.execRestrict id start stop limit applies s
  | .lift id => Sys2Proof.Machine.execLift id s
  | .tripReset => Sys2Proof.Machine.execTripReset s
  | .driveRequest on => Sys2Proof.Machine.execDriveRequest on s
  | .brakeTest step => Sys2Proof.Machine.execBrakeTest step s
  | .doorRelease side mode => Sys2Proof.Machine.execDoorRelease side mode s
  | .doorWithdraw side => Sys2Proof.Machine.execDoorWithdraw side s
  | .doorClose side => Sys2Proof.Machine.execDoorClose side s
  | .doorIsolate leaf => Sys2Proof.Machine.execDoorIsolate leaf s
  | .doorRestore leaf => Sys2Proof.Machine.execDoorRestore leaf s
  | .radioHold on => Sys2Proof.Machine.execRadioHold on s
  | .radioRestart => Sys2Proof.Machine.execRadioRestart s
  | .enterService => Sys2Proof.Machine.execEnterService s
  | .enterDepot key => Sys2Proof.Machine.execEnterDepot key s
  | .park => Sys2Proof.Machine.execPark s
  | .wake => Sys2Proof.Machine.execWake s
  | .eraseTable key table => Sys2Proof.Machine.execEraseTable key table s
  | .openBatch key table count => Sys2Proof.Machine.execOpenBatch key table count s
  | .putRecord key image => Sys2Proof.Machine.execPutRecord key image s
  | .commitBatch key => Sys2Proof.Machine.execCommitBatch key s
  | .batchReset key => Sys2Proof.Machine.execBatchReset key s
  | .closeTable key table endPresent lineEnd => Sys2Proof.Machine.execCloseTable key table endPresent lineEnd s
  | .writeCarRecord key present image => Sys2Proof.Machine.execWriteCarRecord key present image s
  | .programIdentity key serial cls => Sys2Proof.Machine.execProgramIdentity key serial cls s
  | .lockTable key table => Sys2Proof.Machine.execLockTable key table s
  | .unlockTable key table => Sys2Proof.Machine.execUnlockTable key table s

end Sys2Proof.Machine
end

