-- ==== Sys2Proof/Decode.lean ====
section
/-! DEFINITION. How the bytes of the two links spell commands: a transaction of the Command Port (R204, R205, R214) and a frame
of the Valley Radio Link (R153 to R156, R213), each with its encoder. spec/opcode_table.json itself gives no row any bits. -/

namespace Sys2Proof

open Machine

/-- The command a table word spells: none, since spec/opcode_table.json gives no row any bits. -/
def decodeTableWord (_nbits _w : Nat) : Option Instr := none

/-! ## Request frames (R205, R214) -/

/-- The request codes of R214. -/
def requestCodes : List Nat :=
  [0x01, 0x02, 0x03, 0x04, 0x05, 0x06, 0x07, 0x08, 0x09, 0x0A, 0x0B, 0x0C] ++
  [0x10, 0x11, 0x12, 0x13, 0x14, 0x15, 0x16] ++
  [0x20, 0x21, 0x22, 0x23, 0x24, 0x25, 0x26, 0x27] ++
  [0x30, 0x31, 0x32, 0x33, 0x34, 0x38, 0x39] ++
  [0x40, 0x41, 0x42, 0x43] ++
  [0x50, 0x51, 0x52, 0x53, 0x54, 0x55, 0x56, 0x57, 0x58, 0x59]

/-- Status, attention and lookup requests (R214, codes 01 to 16). -/
def decodeReads (key : Bool) : Nat → List Byte → Option Instr
  | 0x01, [] => some .readPosition
  | 0x02, [] => some .readSupervision
  | 0x03, [] => some .readTrip
  | 0x04, [] => some .readBrakes
  | 0x05, [] => some .readDoors
  | 0x06, [l] => some (.readObstruction l)
  | 0x07, [] => some .readLink
  | 0x08, [] => some (.readTables key)
  | 0x09, [] => some .readMode
  | 0x0A, [] => some .readCauses
  | 0x0B, [a, b, c] => some (.clearCauses (a ++ b ++ c))
  | 0x0C, [a, b, c] => some (.setCauseMask (a ++ b ++ c))
  | 0x10, [a, b, c] => some (.lookupAt (a ++ b ++ c))
  | 0x11, [a, b] => some (.readSegment (a ++ b))
  | 0x12, [n] => some (.findStop n)
  | 0x13, [n] => some (.readRestriction n)
  | 0x14, [n] => some (.readAuthority n)
  | 0x15, [] => some .readCarRecord
  | 0x16, [] => some .readSettings
  | _, _ => none

/-- Requests on the line, the doors, the radio and the mode (R214, codes 20 to 43). -/
def decodeActs (key : Bool) : Nat → List Byte → Option Instr
  | 0x20, [x, a, b] => some (.setSetting x (a ++ b))
  | 0x21, [a, b, c] => some (.setPosition (a ++ b ++ c))
  | 0x22, [d] => some (.selectDirection d)
  | 0x23, [i, j, a, b, c, d, e, f, v, w, ap] =>
    some (.restrict (i ++ j) (a ++ b ++ c) (d ++ e ++ f) (v ++ w) ap)
  | 0x24, [i, j] => some (.lift (i ++ j))
  | 0x25, [] => some .tripReset
  | 0x26, [o] => some (.driveRequest o)
  | 0x27, [n] => some (.brakeTest n)
  | 0x30, [x, m] => some (.doorRelease x m)
  | 0x31, [x] => some (.doorWithdraw x)
  | 0x32, [x] => some (.doorClose x)
  | 0x33, [l] => some (.doorIsolate l)
  | 0x34, [l] => some (.doorRestore l)
  | 0x38, [o] => some (.radioHold o)
  | 0x39, [] => some .radioRestart
  | 0x40, [] => some .enterService
  | 0x41, [] => some (.enterDepot key)
  | 0x42, [] => some .park
  | 0x43, [] => some .wake
  | _, _ => none

/-- Depot requests (R214, codes 50 to 59). -/
def decodeDepot (key : Bool) : Nat → List Byte → Option Instr
  | 0x50, [t] => some (.eraseTable key t)
  | 0x51, [t, n] => some (.openBatch key t n)
  | 0x52, img => if imageLengthOk img then some (.putRecord key img) else none
  | 0x53, [] => some (.commitBatch key)
  | 0x54, [] => some (.batchReset key)
  | 0x55, [t, p, a, b, c] => some (.closeTable key t p (a ++ b ++ c))
  | 0x56, a :: b :: img => if img.length = 66 then some (.writeCarRecord key (a ++ b) img) else none
  | 0x57, [a, b, c, d, x, y] => some (.programIdentity key (a ++ b ++ c ++ d) (x ++ y))
  | 0x58, [t] => some (.lockTable key t)
  | 0x59, [t] => some (.unlockTable key t)
  | _, _ => none

/-- A code and its arguments; `none` where the arguments are not the ones R214 gives for the code. -/
def decodeRequest (key : Bool) (code : Byte) (args : List Byte) : Option Instr :=
  if code.toNat < 0x20 then decodeReads key code.toNat args
  else if code.toNat < 0x50 then decodeActs key code.toNat args
  else decodeDepot key code.toNat args

/-- Checks 3 and 4 of R205. -/
def checkRequest (key : Bool) (code : Byte) (args : List Byte) : Instr :=
  if !requestCodes.contains code.toNat then .unknownRequest code
  else (decodeRequest key code args).getD .badFrame

/-- The bytes of a whole transaction, `key` the keyswitch line as it stands: a read, or a request frame checked in the order of
R205; none where nothing was clocked (R204, R205; log 24). -/
def decodeTransaction (key : Bool) : List Byte → Option Instr
  | [] => none
  | len :: rest =>
    if len = 0#8 then some (.readTransaction (rest.length + 1) true)
    else if rest.length ≠ len.toNat || rest.length < 2 then some .badFrame
    else if crc8 (len :: rest.dropLast) ≠ rest.getLast?.getD 0#8 then some .badFrame
    else match rest.dropLast with
    | [] => some .badFrame
    | code :: args => some (checkRequest key code args)

/-- A two-byte argument, high byte first. -/
def halfArg (h : Half) : List Byte := [h.extractLsb' 8 8, h.extractLsb' 0 8]

/-- A three-byte argument, high byte first. -/
def chainArg (c : Chain) : List Byte := [c.extractLsb' 16 8, c.extractLsb' 8 8, c.extractLsb' 0 8]

/-- A four-byte argument, high byte first. -/
def quadArg (q : Quad) : List Byte :=
  [q.extractLsb' 24 8, q.extractLsb' 16 8, q.extractLsb' 8 8, q.extractLsb' 0 8]

/-- A request's code and arguments (R214); none for a command that is no request. -/
def encodeRequest : Instr → Option (Byte × List Byte)
  | .readPosition => some (0x01#8, [])
  | .readSupervision => some (0x02#8, [])
  | .readTrip => some (0x03#8, [])
  | .readBrakes => some (0x04#8, [])
  | .readDoors => some (0x05#8, [])
  | .readObstruction l => some (0x06#8, [l])
  | .readLink => some (0x07#8, [])
  | .readTables _ => some (0x08#8, [])
  | .readMode => some (0x09#8, [])
  | .readCauses => some (0x0A#8, [])
  | .clearCauses m => some (0x0B#8, chainArg m)
  | .setCauseMask m => some (0x0C#8, chainArg m)
  | .lookupAt c => some (0x10#8, chainArg c)
  | .readSegment i => some (0x11#8, halfArg i)
  | .findStop n => some (0x12#8, [n])
  | .readRestriction n => some (0x13#8, [n])
  | .readAuthority n => some (0x14#8, [n])
  | .readCarRecord => some (0x15#8, [])
  | .readSettings => some (0x16#8, [])
  | .setSetting x v => some (0x20#8, x :: halfArg v)
  | .setPosition c => some (0x21#8, chainArg c)
  | .selectDirection d => some (0x22#8, [d])
  | .restrict i a b v ap => some (0x23#8, halfArg i ++ chainArg a ++ chainArg b ++ halfArg v ++ [ap])
  | .lift i => some (0x24#8, halfArg i)
  | .tripReset => some (0x25#8, [])
  | .driveRequest o => some (0x26#8, [o])
  | .brakeTest n => some (0x27#8, [n])
  | .doorRelease x m => some (0x30#8, [x, m])
  | .doorWithdraw x => some (0x31#8, [x])
  | .doorClose x => some (0x32#8, [x])
  | .doorIsolate l => some (0x33#8, [l])
  | .doorRestore l => some (0x34#8, [l])
  | .radioHold o => some (0x38#8, [o])
  | .radioRestart => some (0x39#8, [])
  | .enterService => some (0x40#8, [])
  | .enterDepot _ => some (0x41#8, [])
  | .park => some (0x42#8, [])
  | .wake => some (0x43#8, [])
  | .eraseTable _ t => some (0x50#8, [t])
  | .openBatch _ t n => some (0x51#8, [t, n])
  | .putRecord _ img => some (0x52#8, img)
  | .commitBatch _ => some (0x53#8, [])
  | .batchReset _ => some (0x54#8, [])
  | .closeTable _ t p e => some (0x55#8, [t, p] ++ chainArg e)
  | .writeCarRecord _ m img => some (0x56#8, halfArg m ++ img)
  | .programIdentity _ s c => some (0x57#8, quadArg s ++ halfArg c)
  | .lockTable _ t => some (0x58#8, [t])
  | .unlockTable _ t => some (0x59#8, [t])
  | _ => none

/-- The keyswitch line a request reads; a request that reads none carries no level. -/
def keyOf : Instr → Bool
  | .readTables k => k
  | .enterDepot k => k
  | .eraseTable k _ => k
  | .openBatch k _ _ => k
  | .putRecord k _ => k
  | .commitBatch k => k
  | .batchReset k => k
  | .closeTable k _ _ _ => k
  | .writeCarRecord k _ _ => k
  | .programIdentity k _ _ => k
  | .lockTable k _ => k
  | .unlockTable k _ => k
  | _ => false

/-- A request frame: length, code, arguments, CRC-8 over every byte before it (R205, R211). -/
def requestFrame (code : Byte) (args : List Byte) : List Byte :=
  let head := byteOf (args.length + 2) :: code :: args
  head ++ [crc8 head]

/-! ## Radio frames (R153 to R156, R213) -/

/-- A body of a valley kind as its command; `none` where the kind is not one, or the body has another length (R154, R156,
R213). -/
def decodeBody (addr seq : Byte) : Nat → List Byte → Option Instr
  | 0x01, [i, j, a, b, c, d, e, f, dir, v, w, x, y] =>
    some (.grant addr seq (i ++ j) (a ++ b ++ c) (d ++ e ++ f) dir (v ++ w) (x ++ y))
  | 0x02, [i, j, a, b, c] => some (.shorten addr seq (i ++ j) (a ++ b ++ c))
  | 0x03, [i, j] => some (.revoke addr seq (i ++ j))
  | 0x04, [i, j, a, b, c, d, e, f, v, w, ap] =>
    some (.restrictFrame addr seq (i ++ j) (a ++ b ++ c) (d ++ e ++ f) (v ++ w) ap)
  | 0x05, [i, j] => some (.liftFrame addr seq (i ++ j))
  | 0x06, [] => some (.flushOverflow addr seq)
  | 0x07, [n] => some (.stopClose addr seq n)
  | 0x08, [n] => some (.stopOpen addr seq n)
  | 0x09, [] => some (.probe addr seq)
  | _, _ => none

/-- The valley kinds have the codes 01 to 09 (R213). -/
def isValleyKind (kind : Byte) : Bool := 1 ≤ kind.toNat && kind.toNat ≤ 9

/-- A frame whose CRC has matched: checked for length against its kind, then sorted by its address (R154 to R156). -/
def decodeGood (latched : Option Nat) (addr kind seq : Byte) (body : List Byte) : Instr :=
  let other : Bool := addr ≠ 0#8 && latched ≠ some addr.toNat
  if isValleyKind kind then
    match decodeBody addr seq kind.toNat body with
    | none => .frameDiscarded .wrongLength
    | some i => if other then .foreignFrame addr else i
  else if other then .foreignFrame addr
  else .carKindFrame addr kind

/-- The bytes of one frame from its start byte on, as the VRU examines them; none while they are not a whole frame (R153,
R154). -/
def decodeRadioFrame (latched : Option Nat) : List Byte → Option Instr
  | start :: addr :: kind :: seq :: len :: rest =>
    if start ≠ 0xA5#8 then none
    else if 40 < len.toNat then some (.frameDiscarded .tooLong)
    else if rest.length ≠ len.toNat + 2 then none
    else
      let body := rest.take len.toNat
      if rest.drop len.toNat ≠ halfBytes (crc16 ([addr, kind, seq, len] ++ body)).toNat then
        some (.frameDiscarded .badCrc)
      else some (decodeGood latched addr kind seq body)
  | _ => none

/-- The kind and body of a valley frame; none for a command that is no valley frame (R156, R213). -/
def encodeBody : Instr → Option (Byte × Byte × Byte × List Byte)
  | .grant a q i s e d v x =>
    some (a, 0x01#8, q, halfArg i ++ chainArg s ++ chainArg e ++ [d] ++ halfArg v ++ halfArg x)
  | .shorten a q i e => some (a, 0x02#8, q, halfArg i ++ chainArg e)
  | .revoke a q i => some (a, 0x03#8, q, halfArg i)
  | .restrictFrame a q i s e v ap => some (a, 0x04#8, q, halfArg i ++ chainArg s ++ chainArg e ++ halfArg v ++ [ap])
  | .liftFrame a q i => some (a, 0x05#8, q, halfArg i)
  | .flushOverflow a q => some (a, 0x06#8, q, [])
  | .stopClose a q n => some (a, 0x07#8, q, [n])
  | .stopOpen a q n => some (a, 0x08#8, q, [n])
  | .probe a q => some (a, 0x09#8, q, [])
  | _ => none

/-- The whole frame of a valley kind (R153, R154, R213). -/
def encodeFrame (i : Instr) : Option (List Byte) :=
  (encodeBody i).map (fun x => radioFrame x.1 x.2.1 x.2.2.1 x.2.2.2)

end Sys2Proof
end

