-- ==== Sys2Proof/Machine/Receiver.lean ====
section
/-! DEFINITION. The receiver of the Valley Radio Unit: the hunt for frames, byte by byte (R150, R153, R154), and the tick of the
part's clock, in which the bytes then received are examined beside the timers (log 1, log 33). -/

namespace Sys2Proof.Machine

/-- What one byte does to the frame in progress `rx`: the bytes the VRU then holds, and the events the byte brings. Outside a frame
every byte but a start byte is discarded. In a frame a missing stop bit and a gap of more than 20 ms end it; any other byte is taken
as data, until the header, body and CRC are those of a whole frame or the length byte is above 40 (R153, R154). The event itself
resumes the hunt. A transceiver that is not ON, or a part before step 2 of START, discards every byte unread (R150, R192). -/
def Vru.hear (b : LineByte) (v : Vru) : List Byte × List Instr :=
  if !v.listens then ([], [])
  else if v.rx = [] then (if b.stopBit && b.value = 0xA5#8 then [b.value] else [], [])
  else if !b.stopBit then (v.rx, [.frameDiscarded .framing])
  else if 20 < b.gap then (v.rx, [.frameGapTimeout b.value])
  else (v.rx ++ [b.value], (decodeRadioFrame v.latched (v.rx ++ [b.value])).toList)

/-- One byte received. -/
def receiveByte (b : LineByte) (s : State) : State :=
  let h := s.vru.hear b
  (setRx h.1 s).withPending (s.pending ++ h.2)

/-- The bytes of `line` whose time has come are received in turn, up to the first that brings an event: the event is carried out
before the next byte is examined. -/
def receive : List LineByte → State → State
  | [], s => s
  | b :: rest, s =>
    if s.inp.lineWait < b.gap then s
    else
      let t := receiveByte b (s.onInp (fun i => { i with line := rest, lineWait := i.lineWait - b.gap }))
      if (s.vru.hear b).2 = [] then receive rest t else t

/-- One millisecond of the part's clock: the timers run, a step of START that is due is taken, the events then due are queued, and the
bytes then received are examined (log 1, log 12, log 33). -/
def tick (s : State) : State :=
  let t := startClock (elapse 1 s)
  receive t.inp.line ((t.withPending (dueEvents t)).withDrawn (t.drawn + (opDue t).length))

end Sys2Proof.Machine
end

