-- ==== Sys2Proof/Safety.lean ====
section
/-! DEFINITION. The terms in which statements about the part are made: the blocks of state a command may change (frames), the
answer a request leaves, the promises of the manual that every step keeps, what a recomputation leaves, and what a side closed out is. -/

namespace Sys2Proof.Machine

/-! ## Frames -/

/-- The parts of the state a frame names. -/
inductive Block where
  /-- The nonvolatile store (R171). -/
  | nv
  /-- Settings, closure set, restriction list, overflow record (R1). -/
  | lrs
  /-- The Position Unit (R27) less its rollback accumulator. -/
  | pou
  /-- The rollback accumulator, and whether its passing has been reported (R47, R48). -/
  | rollback
  /-- The authority chain and the selected direction (R60). -/
  | aut
  /-- The Speed Supervision Unit (R75). -/
  | ssu
  /-- The Brake Control Unit (R99). -/
  | bcu
  /-- The Door Control Unit (R124). -/
  | dcu
  /-- The Valley Radio Unit (R149) less the transmitter. -/
  | radio
  /-- Transmit queue, frame being sent, transmit sequence, report timer, trip burst (R160 to R164). -/
  | transmitter
  /-- Run lock, batch, operation in flight, operation record, supply state (R171). -/
  | nvc
  /-- The mode controller (R190). -/
  | ctl
  /-- Request in progress, waiting response, read position, RDY, data out (R203). -/
  | port
  /-- Cause set, enable mask, ATTN (R208). -/
  | causes
  /-- The input lines as last taken. -/
  | inp
  /-- The model's queue of commands. -/
  | queue
  /-- The model's count of free values drawn. -/
  | draws
  deriving DecidableEq, Repr

/-- The Valley Radio Unit with its transmitter blanked out. -/
def Vru.lessTransmitter (v : Vru) : Vru :=
  { v with queue := [], sending := none, sendTimer := none, txSeq := 0, reportTimer := none, burstCount := 0,
           burstTimer := none }

/-- The Command Port with its cause set blanked out. -/
def Cmp.lessCauses (p : Cmp) : Cmp := { p with causes := 0, mask := 0, attn := false }

/-- Two states agree on a block. -/
def Block.same (b : Block) (s t : State) : Prop :=
  match b with
  | .nv => t.nv = s.nv
  | .lrs => t.lrs = s.lrs
  | .pou => t.pou.zeroRollback = s.pou.zeroRollback
  | .rollback => t.pou.rollback = s.pou.rollback ∧ t.pou.rollbackReported = s.pou.rollbackReported
  | .aut => t.aut = s.aut
  | .ssu => t.ssu = s.ssu
  | .bcu => t.bcu = s.bcu
  | .dcu => t.dcu = s.dcu
  | .radio => t.vru.lessTransmitter = s.vru.lessTransmitter
  | .transmitter =>
    t.vru.queue = s.vru.queue ∧ t.vru.sending = s.vru.sending ∧ t.vru.sendTimer = s.vru.sendTimer ∧
      t.vru.txSeq = s.vru.txSeq ∧ t.vru.reportTimer = s.vru.reportTimer ∧ t.vru.burstCount = s.vru.burstCount ∧
      t.vru.burstTimer = s.vru.burstTimer
  | .nvc => t.nvc = s.nvc
  | .ctl => t.ctl = s.ctl
  | .port => t.cmp.lessCauses = s.cmp.lessCauses
  | .causes => t.cmp.causes = s.cmp.causes ∧ t.cmp.mask = s.cmp.mask ∧ t.cmp.attn = s.cmp.attn
  | .inp => t.inp = s.inp
  | .queue => t.pending = s.pending
  | .draws => t.drawn = s.drawn

/-- From `s` to `t` nothing changes but, at most, the blocks of the list. -/
def Keeps (changed : List Block) (s t : State) : Prop := ∀ b : Block, b ∉ changed → b.same s t

/-- What an evaluation of the BCU may change (R100): brakes, doors that relock (R138), the rollback accumulator (R47), causes. -/
def evalBlocks : List Block := [.bcu, .dcu, .causes, .rollback]

/-- What a recomputation of the SSU, and a trip it finds, may change (R76, R93): besides the evaluation's, supervision itself and
the trip burst (R164). -/
def tripBlocks : List Block := [.ssu, .transmitter] ++ evalBlocks

/-- The blocks a command may change, whatever the state it meets; the queue and the count of draws are in none. A command may
always begin the transmission of a car frame that waits (R161). -/
def touches : Instr → List Block
  | .fullReset _ => [.nv, .lrs, .pou, .aut, .radio, .nvc, .ctl, .port, .inp] ++ tripBlocks
  | .startSequence => [.nv, .lrs, .radio, .ctl] ++ tripBlocks
  | .inputFilterSettled _ => .inp :: tripBlocks
  | .verifyWriteConfirmed _ _ => [.nv, .transmitter]
  | .wheelPulse _ => .pou :: tripBlocks
  | .pinionPulse => .pou :: tripBlocks
  | .markerPulse => [.pou, .causes, .transmitter]
  | .standstillDeclared => [.pou, .transmitter] ++ evalBlocks
  | .positionUpdate => [.pou, .aut, .radio, .nvc, .ctl, .port, .inp] ++ tripBlocks
  | .ebReadyChange _ => .inp :: tripBlocks
  | .bandSwitchChange _ _ _ => .inp :: tripBlocks
  | .releaseTimerExpiry _ => tripBlocks
  | .applyTimerExpiry _ => tripBlocks
  | .wbPressureChange _ => [.inp, .transmitter] ++ evalBlocks
  | .followTimerExpiry => .transmitter :: evalBlocks
  | .step1Timeout => .transmitter :: evalBlocks
  | .step5WatchEnd => tripBlocks
  | .buttonEdge _ _ => [.inp, .transmitter] ++ evalBlocks
  | .openEndSwitch _ _ => [.inp, .transmitter] ++ evalBlocks
  | .closedSwitchChange _ _ => .inp :: tripBlocks
  | .lockSwitchChange _ _ => .inp :: tripBlocks
  | .openStrokeTimeout _ => .transmitter :: evalBlocks
  | .closeStrokeTimeout _ => .transmitter :: evalBlocks
  | .lockTimeout _ => .transmitter :: evalBlocks
  | .dwellEnd _ => .transmitter :: evalBlocks
  | .warnLeadEnd _ => .transmitter :: evalBlocks
  | .doorSample _ _ _ => [.inp, .transmitter] ++ evalBlocks
  | .stallTimeout _ => .transmitter :: evalBlocks
  | .recordExpiry _ => .aut :: tripBlocks
  | .silenceReaches4s => [.radio, .aut] ++ tripBlocks
  | .silenceReachesLostLimit => [.radio, .aut] ++ tripBlocks
  | .reportTimerExpiry => [.transmitter]
  | .burstTimerExpiry => [.transmitter]
  | .broadcastReportDelay => [.radio, .transmitter]
  | .restartTimerExpiry => [.radio, .aut] ++ tripBlocks
  | .carFrameSent => [.transmitter]
  | .frameDiscarded _ => [.radio, .transmitter]
  | .frameGapTimeout _ => [.radio, .transmitter]
  | .foreignFrame _ => [.radio, .transmitter]
  | .carKindFrame _ _ => [.radio, .aut] ++ tripBlocks
  | .grant _ _ _ _ _ _ _ _ => [.radio, .aut] ++ tripBlocks
  | .shorten _ _ _ _ => [.radio, .aut] ++ tripBlocks
  | .revoke _ _ _ => [.radio, .aut] ++ tripBlocks
  | .restrictFrame _ _ _ _ _ _ _ => [.radio, .aut, .lrs] ++ tripBlocks
  | .liftFrame _ _ _ => [.radio, .aut, .lrs] ++ tripBlocks
  | .flushOverflow _ _ => [.radio, .aut, .lrs] ++ tripBlocks
  | .stopClose _ _ _ => [.radio, .aut, .lrs] ++ tripBlocks
  | .stopOpen _ _ _ => [.radio, .aut, .lrs] ++ tripBlocks
  | .probe _ _ => [.radio, .aut] ++ tripBlocks
  | .supplyLockout _ => [.nv, .nvc] ++ tripBlocks
  | .supplyNormal => [.nv, .nvc, .transmitter]
  | .nvWriteConfirmed => [.nv, .nvc] ++ tripBlocks
  | .nvTimeLimit _ => [.nv, .nvc] ++ tripBlocks
  | .settleTimerExpiry => [.ctl, .nvc] ++ tripBlocks
  | .readTransaction _ _ => [.port, .transmitter]
  | .badFrame => [.port, .transmitter]
  | .unknownRequest _ => [.port, .transmitter]
  | .responseReady => [.port, .transmitter]
  | .readPosition => [.port, .transmitter]
  | .readSupervision => [.port, .transmitter]
  | .readTrip => [.port, .transmitter]
  | .readBrakes => [.port, .transmitter]
  | .readDoors => [.port, .transmitter]
  | .readObstruction _ => [.port, .transmitter]
  | .readLink => [.port, .radio, .transmitter]
  | .readTables _ => [.port, .inp, .transmitter]
  | .readMode => [.port, .transmitter]
  | .readCauses => [.port, .transmitter]
  | .clearCauses _ => [.port, .causes, .transmitter]
  | .setCauseMask _ => [.port, .causes, .transmitter]
  | .lookupAt _ => [.port, .transmitter]
  | .readSegment _ => [.port, .transmitter]
  | .findStop _ => [.port, .transmitter]
  | .readRestriction _ => [.port, .transmitter]
  | .readAuthority _ => [.port, .transmitter]
  | .readCarRecord => [.port, .transmitter]
  | .readSettings => [.port, .transmitter]
  | .setSetting _ _ => [.port, .lrs, .radio, .aut] ++ tripBlocks
  | .setPosition _ => [.port, .pou, .rollback, .transmitter]
  | .selectDirection _ => [.port, .aut] ++ tripBlocks
  | .restrict _ _ _ _ _ => [.port, .lrs] ++ tripBlocks
  | .lift _ => [.port, .lrs] ++ tripBlocks
  | .tripReset => .port :: tripBlocks
  | .driveRequest _ => [.port, .transmitter] ++ evalBlocks
  | .brakeTest _ => .port :: tripBlocks
  | .doorRelease _ _ => [.port, .transmitter] ++ evalBlocks
  | .doorWithdraw _ => [.port, .transmitter] ++ evalBlocks
  | .doorClose _ => [.port, .transmitter] ++ evalBlocks
  | .doorIsolate _ => [.port, .transmitter] ++ evalBlocks
  | .doorRestore _ => [.port, .transmitter] ++ evalBlocks
  | .radioHold _ => [.port, .radio, .aut] ++ tripBlocks
  | .radioRestart => [.port, .radio, .transmitter]
  | .enterService => [.port, .ctl, .nvc] ++ tripBlocks
  | .enterDepot _ => [.port, .inp, .ctl] ++ tripBlocks
  | .park => [.port, .aut, .radio, .ctl] ++ tripBlocks
  | .wake => [.port, .pou, .radio, .aut, .ctl] ++ tripBlocks
  | .eraseTable _ _ => [.port, .inp, .nvc, .nv, .lrs] ++ tripBlocks
  | .openBatch _ _ _ => [.port, .inp, .nvc, .transmitter]
  | .putRecord _ _ => [.port, .inp, .nvc, .transmitter]
  | .commitBatch _ => [.port, .inp, .nvc, .nv, .lrs] ++ tripBlocks
  | .batchReset _ => [.port, .inp, .nvc, .transmitter]
  | .closeTable _ _ _ _ => [.port, .inp, .nvc, .nv, .lrs] ++ tripBlocks
  | .writeCarRecord _ _ _ => [.port, .inp, .nvc, .nv, .lrs] ++ tripBlocks
  | .programIdentity _ _ _ => [.port, .inp, .nvc, .transmitter]
  | .lockTable _ _ => [.port, .inp, .nvc, .transmitter]
  | .unlockTable _ _ => [.port, .inp, .nvc, .nv, .lrs] ++ tripBlocks

/-! ## Answers (R206, R207) -/

/-- The request with `code` has been taken and decided: its response carries the status, the reason and the items, is to be ready
within 2 ms, and no older response waits. -/
def Answered (t : State) (code : Byte) (status : Status) (reason : Reason) (items : List Byte) : Prop :=
  t.cmp.inProgress = some { code := code, answer := { status := status, reason := reason, items := items }, timer := 2 } ∧
    t.cmp.waiting = none ∧ t.cmp.readPos = 0 ∧ t.cmp.rdy = false

/-- The request with `code` is answered DONE with the items. -/
def Done (t : State) (code : Byte) (items : List Byte) : Prop := Answered t code .done .none items

/-- No request is in progress, so that the next request frame is taken (R206). -/
abbrev State.portFree (s : State) : Prop := s.cmp.inProgress = none

/-- No request is in progress and the mode is neither START nor WAKING, so that a request that is no status request reaches its
owner (R194, R206). -/
abbrev State.servesRequests (s : State) : Prop := s.cmp.inProgress = none ∧ s.ctl.mode ≠ .start ∧ s.ctl.mode ≠ .waking

/-- The state as a request's owner meets it: a response that was waiting has been discarded (R206). -/
def State.asTaken (s : State) : State := s.onCmp Cmp.dropWaiting

/-! ## Radio frames (R153 to R158) -/

/-- The VRU examines the bytes received: the transceiver is ON, and step 2 of START has been passed (R150, R153, R192). -/
abbrev State.listening (s : State) : Prop := s.vru.xcvr = .on ∧ s.vru.hunting = true

/-- A good frame with the address is directed to this car (R155). -/
abbrev State.directed (s : State) (addr : Byte) : Prop := s.listening ∧ addr ≠ 0#8 ∧ s.vru.latched = some addr.toNat

/-- A good frame with the address goes to this car, alone or with every other (R155). -/
abbrev State.addressed (s : State) (addr : Byte) : Prop :=
  s.listening ∧ (addr = 0#8 ∨ s.vru.latched = some addr.toNat)

/-- A good frame with the address is another car's (R155). -/
abbrev State.foreign (s : State) (addr : Byte) : Prop := s.listening ∧ addr ≠ 0#8 ∧ s.vru.latched ≠ some addr.toNat

/-- The sequence is not the one of the last taken record, so that a directed frame with it is new (R158). -/
abbrev State.newSequence (s : State) (seq : Byte) : Prop := s.vru.lastTaken.map LastTaken.seq ≠ some seq

/-- From `s` to `t` a directed frame has been processed: the link is UP with its silence at 0, the last taken record is the frame's, and
its ANSWER waits last in the queue, as it does wherever a frame was being sent, or it is itself being sent, laid out as R213 gives it
(R156 to R158, R160, R161). That a frame waiting for an idle transmitter begins within the same command is the model's choice of
log 8. -/
def Processed (s t : State) (seq : Byte) (kind : ValleyKind) (outcome : RadioOutcome) (slot : Option Nat) : Prop :=
  let r : LastTaken := { seq := seq, kind := kind, outcome := outcome, slot := slot }
  t.vru.link = .up ∧ t.vru.silence = 0 ∧ t.vru.lastTaken = some r ∧
    (s.vru.sending ≠ none → t.vru.queue.getLast? = some (.answer r)) ∧ t.vru.sending ≠ none ∧
    (t.vru.queue.getLast? = some (.answer r) ∨ t.vru.queue = [] ∧ ∃ a : Nat, s.vru.latched = some a ∧
      t.vru.sending = some (radioFrame (byteOf a) 0x81#8 s.vru.txSeq
        [seq, kind.code, outcome.code, byteOf (slot.getD 0xFF)]))

/-- A depot request is refused for a reason: nothing but the port, and the keyswitch line as read, changes. -/
def RefusedInDepot (c : Instr) (s : State) (code : Byte) (why : Reason) : Prop :=
  ∃ t : State, exec c s = .next t ∧ Keeps [.port, .inp, .transmitter] s t ∧ Answered t code .refused why []

/-- The address of a good frame. -/
def frameAddress : Instr → Option Byte
  | .foreignFrame a => some a
  | .carKindFrame a _ => some a
  | .grant a _ _ _ _ _ _ _ => some a
  | .shorten a _ _ _ => some a
  | .revoke a _ _ => some a
  | .restrictFrame a _ _ _ _ _ _ => some a
  | .liftFrame a _ _ => some a
  | .flushOverflow a _ => some a
  | .stopClose a _ _ => some a
  | .stopOpen a _ _ => some a
  | .probe a _ => some a
  | _ => none

/-- The sequence of a valley frame that R158 can find a duplicate; a directed PROBE with sequence 0 is always processed (R159). -/
def frameSequence : Instr → Option Byte
  | .grant _ q _ _ _ _ _ _ => some q
  | .shorten _ q _ _ => some q
  | .revoke _ q _ => some q
  | .restrictFrame _ q _ _ _ _ _ => some q
  | .liftFrame _ q _ => some q
  | .flushOverflow _ q => some q
  | .stopClose _ q _ => some q
  | .stopOpen _ q _ => some q
  | .probe _ q => if q = 0#8 then none else some q
  | _ => none

/-- The depot requests (R173, R214). -/
def isDepotRequest : Instr → Bool
  | .eraseTable _ _ => true
  | .openBatch _ _ _ => true
  | .putRecord _ _ => true
  | .commitBatch _ => true
  | .batchReset _ => true
  | .closeTable _ _ _ _ => true
  | .writeCarRecord _ _ _ => true
  | .programIdentity _ _ _ => true
  | .lockTable _ _ => true
  | .unlockTable _ _ => true
  | _ => false

/-- A depot request passes the five checks of R173. -/
abbrev State.depotOpen (s : State) : Prop :=
  s.portFree ∧ s.nvc.runLock = false ∧ s.ctl.mode = .depot ∧ s.nvc.lockout = false ∧ s.nvc.op = none

/-! ## Promises that every step keeps -/

/-- Every leaf is LOCKED or ISOLATED (R147). -/
abbrev State.leavesSecure (s : State) : Prop :=
  s.dcu.a1.state.isSecure = true ∧ s.dcu.a2.state.isSecure = true ∧ s.dcu.b1.state.isSecure = true ∧
    s.dcu.b2.state.isSecure = true

/-- R147: the door summary is SECURE exactly while every leaf is LOCKED or ISOLATED. -/
abbrev State.summaryTrue (s : State) : Prop := s.dcu.secure = true ↔ s.leavesSecure

/-- R110, last paragraph: release permission and the traction-permitted line are never active while any leaf is in a state other
than LOCKED or ISOLATED, while the brake test is neither PASSED nor PASSED_DEGRADED, or while supervision is INTERVENE or
TRIP. -/
abbrev State.guarded (s : State) : Prop :=
  s.bcu.permission = true ∨ s.bcu.traction = true →
    s.leavesSecure ∧ (s.bcu.test = .passed ∨ s.bcu.test = .passedDegraded) ∧
      s.ssu.state ≠ .intervene ∧ s.ssu.state ≠ .trip

/-- R203, R208: RDY is active exactly while a response is waiting, ATTN exactly while a cause is both latched and enabled. -/
abbrev State.linesTrue (s : State) : Prop :=
  (s.cmp.rdy = true ↔ s.cmp.waiting ≠ none) ∧ (s.cmp.attn = true ↔ s.cmp.causes &&& s.cmp.mask ≠ 0#17)

/-- Each record but the first starts where the one before it ends. -/
def joined : List Authority → Prop
  | [] => True
  | [_] => True
  | r :: q :: rest => q.start = r.stop ∧ joined (q :: rest)

/-- R60: at most 6 records, no two with one id, each in the selected direction with its end ahead of its start, each but slot 0
starting where the one before it ends. -/
def Aut.wellFormed (a : Aut) : Prop :=
  a.chain.length ≤ 6 ∧ (a.chain.map Authority.id).Nodup ∧
    (∀ r ∈ a.chain, r.dir = a.selected ∧ runsAlong r.dir r.start r.stop = true) ∧ joined a.chain

/-- The starts do not fall. -/
def startsRise : List Restriction → Prop
  | [] => True
  | [_] => True
  | r :: q :: rest => r.start ≤ q.start ∧ startsRise (q :: rest)

/-- R50: at most 24 records, in rising order of start chainage, no two with one id, each with start below end; and the limit within
0 .. 2000 cm/s. -/
def Lrs.wellFormed (l : Lrs) : Prop :=
  l.restrictions.length ≤ 24 ∧ startsRise l.restrictions ∧ (l.restrictions.map Restriction.id).Nodup ∧
    ∀ r ∈ l.restrictions, r.start < r.stop ∧ r.limit ≤ 2000

/-- The records of the three tables. -/
def Nv.records (nv : Nv) : List Segment × List StopRec × Option CarConfig := (nv.segments, nv.stops, nv.config)

/-- R25: the closure set holds no number twice, and each of its numbers is that of a record of the stop table, which is CLOSED. -/
def State.closureTrue (s : State) : Prop :=
  s.lrs.closure.Nodup ∧ ∀ n ∈ s.lrs.closure, s.nv.stopsT.state = .closed ∧ ∃ p ∈ s.nv.stops, p.number = n

/-- R58, R172: while the profile table is not CLOSED the restriction list is empty and the overflow record absent. -/
def State.listsFollowProfile (s : State) : Prop :=
  s.nv.profileT.state ≠ .closed → s.lrs.restrictions = [] ∧ s.lrs.overflow = none

/-- R174: the table of an operation that changes records is INCOMPLETE while it runs. -/
def State.marksIncomplete (s : State) : Prop :=
  ∀ f : InFlight, s.nvc.op = some f → f.op.marks = true → (s.nv.info f.op.table).state = .incomplete

/-- What R25, R58 and R174 promise of the volatile records beside the tables they belong to. -/
def State.recordsTrue (s : State) : Prop := s.closureTrue ∧ s.listsFollowProfile ∧ s.marksIncomplete

/-- What a table leaving CLOSED empties: the stop table the closure set, the profile table the restriction list and the overflow
record (R25, R58, R172). -/
def Lrs.emptiedBy (x : Table) (l : Lrs) : Prop :=
  match x with
  | .stops => l.closure = []
  | .profile => l.restrictions = [] ∧ l.overflow = none
  | .car => True

/-- R174, R188: a nonvolatile operation runs in DEPOT with the run lock clear. -/
abbrev State.storeGuarded (s : State) : Prop := s.nvc.op ≠ none → s.ctl.mode = .depot ∧ s.nvc.runLock = false

/-- R4, R11: the profile records stand in strictly rising order of start, and no stop record stands after one that its reference
chainage, or with the same its number, puts it before; a commit in flight would keep that order (R179). -/
def State.storeOrdered (s : State) : Prop :=
  s.nv.segments.Pairwise (fun g h => g.start < h.start) ∧ s.nv.stops.Pairwise (fun p q => q.before p = false) ∧
    ∀ f : InFlight, s.nvc.op = some f → f.op = .commit .profile →
      (s.nv.segments ++ s.nvc.batch.segments).Pairwise (fun g h => g.start < h.start)

/-- R161: at most 4 frames wait, at most one of them a REPORT. -/
def Vru.queueBounded (v : Vru) : Prop := v.queue.length ≤ 4 ∧ (v.queue.filter CarFrame.isReport).length ≤ 1

/-- R16: the values a fix gives U lie within the range of U, in the record stored and in the one an operation is writing. -/
def State.fixesInRange (s : State) : Prop :=
  ∀ c : CarConfig, s.nv.config = some c ∨ s.nvc.op.map InFlight.op = some (.writeCar c) →
    c.uFixRack ≤ 65535 ∧ c.uFixMarker ≤ 65535 ∧ c.uSet ≤ 65535

/-- R30, R35: the ranges of the fine position, of D_r and of D_w. -/
abbrev Pou.inRange (p : Pou) : Prop := p.fine ≤ 1677721599 ∧ p.dR ≤ 1677721599 ∧ p.dW ≤ 1677721599

/-- R94, R95: the trip record keeps its first cause and its values, and its cause set loses nothing. -/
def TripRecord.extends (t u : TripRecord) : Prop :=
  u.first = t.first ∧ u.cHigh = t.cHigh ∧ u.vMeas = t.vMeas ∧ u.vPerm = t.vPerm ∧ u.set ||| t.set = u.set

/-- The changes of mode of R190. -/
def modeMoves (c : Instr) (m n : Mode) : Prop :=
  match c with
  | .fullReset _ => n = .start
  | .startSequence => n = m ∨ (m = .start ∧ n = .ready)
  | .enterService => n = m ∨ (m = .ready ∧ n = .service)
  | .enterDepot _ => n = m ∨ (m = .ready ∧ n = .depot)
  | .park => n = m ∨ (m = .service ∧ n = .parked)
  | .wake => n = m ∨ (m = .parked ∧ n = .waking)
  | .settleTimerExpiry => n = m ∨ (m = .waking ∧ n = .service)
  | _ => n = m

/-! ## What limits the speed (R77 to R88), in the words of the rules -/

/-- Where the extent of the i-th segment ends: where the next one begins, the last one at its own end, open where that is absent (R3,
R4). -/
def segmentEnd (segs : List Segment) (i : Nat) : Option Nat :=
  match segs[i + 1]? with
  | some next => some next.start
  | none => (segs[i]?).bind Segment.endC

/-- The i-th segment is `g`, and its extent shares a chainage with the span [a, b) (R7). -/
def segmentMeets (segs : List Segment) (i : Nat) (g : Segment) (a b : Int) : Prop :=
  segs[i]? = some g ∧ a < b ∧ (g.start : Int) < b ∧ ∀ h : Nat, segmentEnd segs i = some h → a < h ∧ g.start < h

/-- [lo, hi) shares a chainage with the worst-case span, both ends of which belong to it (R77). -/
def State.spanMeets (s : State) (lo hi : Nat) : Prop := lo < hi ∧ (lo : Int) ≤ s.spanHigh ∧ s.spanLow < hi

/-- A contributor to the over-body limit, with its value (R77). -/
def State.contributes (s : State) (v : Nat) (src : Source) : Prop :=
  (∃ (i : Nat) (g : Segment), segmentMeets s.lineSegments i g s.spanLow (s.spanHigh + 1) ∧
    v = (match s.aut.selected with
      | .up => g.limitUp
      | .down => g.limitDown) ∧ src = .segment i) ∨
  (∃ r ∈ s.lrs.restrictions, s.spanMeets r.start r.stop ∧ r.applies.binds s.aut.selected = true ∧ v = r.limit ∧
    src = .restriction r.id) ∨
  (∃ o : Overflow, s.lrs.overflow = some o ∧ s.spanMeets o.start o.stop ∧ v = o.limit ∧ src = .overflow) ∨
  (∃ r ∈ s.aut.chain, s.spanMeets r.lo r.hi ∧ v = r.cap ∧ src = .authority r.id)

/-- The term of a segment: the brake figure A and the gravity part, floored (R81). -/
def State.decelTerm (s : State) (g : Segment) : Int :=
  (if s.bcu.ebAvail = false then (s.cfg.aSvcDegr : Int)
    else if g.kind = .adhesion then (s.cfg.aSvcAdh : Int) else (s.cfg.aSvcRack : Int)) +
  (match s.aut.selected with
    | .up => (g.gradient * 981).fdiv 1000
    | .down => (-g.gradient * 981).fdiv 1000)

/-- `g` is a segment of the stretch from the worst-case front to `near` (R81). -/
def State.onWayTo (s : State) (near : Nat) (g : Segment) : Prop :=
  ∃ i : Nat, segmentMeets s.lineSegments i g (min s.front (near : Int)) (max s.front (near : Int))

/-- `a` is the effective deceleration for a target at `near`: the lowest term on the way, clamped to 0 .. 500, and 0 where the stretch has
no segment (R82). -/
def State.decelTo (s : State) (near a : Nat) : Prop :=
  ((∀ g : Segment, ¬ s.onWayTo near g) ∧ a = 0) ∨
    ∃ g : Segment, s.onWayTo near g ∧ (∀ h : Segment, s.onWayTo near h → s.decelTerm g ≤ s.decelTerm h) ∧
      (a : Int) = max 0 (min 500 (s.decelTerm g))

/-- `x` is the target of a record over [lo, hi) with target speed `v`, ahead of the worst-case span and beginning at or before the far end
(R79, R81 to R84). -/
def State.targetAhead (s : State) (far lo hi v : Nat) (x : Target) : Prop :=
  (match s.aut.selected with
    | .up => s.spanHigh < lo ∧ lo ≤ far ∧ x.near = lo ∧ (x.distance : Int) = lo - s.spanHigh
    | .down => (hi : Int) ≤ s.spanLow ∧ far ≤ hi ∧ x.near = hi ∧ (x.distance : Int) = s.spanLow - hi) ∧
  ∃ a : Nat, x.aEff = some a ∧ s.decelTo x.near a ∧ x.curve = brakingCurve v a x.distance s.cfg.buildUp

/-- `x` is the far end of the chain as a target of speed 0: ahead of the worst-case front with its distance and curve, else with curve 0
and no deceleration (R80). The distance 0 of a far end that is not ahead stands for the one that R80 does not compute. -/
def State.targetFarEnd (s : State) (far : Nat) (x : Target) : Prop :=
  x.source = .authorityEnd ∧ x.near = far ∧ ∀ left : Int, left = (match s.aut.selected with
    | .up => far - s.spanHigh
    | .down => s.spanLow - far) →
  (0 < left → (x.distance : Int) = left ∧
    ∃ a : Nat, x.aEff = some a ∧ s.decelTo far a ∧ x.curve = brakingCurve 0 a x.distance s.cfg.buildUp) ∧
  (left ≤ 0 → x.distance = 0 ∧ x.aEff = none ∧ x.curve = 0)

/-- `x` is one of the targets of R79 and R80. -/
def State.isTarget (s : State) (x : Target) : Prop :=
  s.ctl.mode = .service ∧ ∃ last : Authority, s.aut.chain.getLast? = some last ∧
    ((∃ (i : Nat) (g : Segment) (h v : Nat), s.lineSegments[i]? = some g ∧ segmentEnd s.lineSegments i = some h ∧
        v = (match s.aut.selected with
          | .up => g.limitUp
          | .down => g.limitDown) ∧
        v < (s.overBody.map Prod.fst).getD 2000 ∧ x.source = .segment i ∧ s.targetAhead last.stop g.start h v x) ∨
      (∃ r ∈ s.lrs.restrictions, r.applies.binds s.aut.selected = true ∧ x.source = .restriction r.id ∧
        s.targetAhead last.stop r.start r.stop r.limit x) ∨
      (∃ o : Overflow, s.lrs.overflow = some o ∧ x.source = .overflow ∧
        s.targetAhead last.stop o.start o.stop o.limit x) ∨
      (∃ r ∈ s.aut.chain, x.source = .authority r.id ∧ s.targetAhead last.stop r.lo r.hi r.cap x) ∨
      s.targetFarEnd last.stop x)

/-- The order of kinds in which equal values are named (R78, R88). -/
def Source.rank : Source → Nat
  | .segment _ => 0
  | .restriction _ => 1
  | .overflow => 2
  | .authority _ => 3
  | .authorityEnd => 4
  | .modeCap _ => 5

/-- The index of a segment named. -/
def Source.segmentIndex : Source → Option Nat
  | .segment i => some i
  | _ => none

/-- The id of a restriction named. -/
def Source.restrictionId : Source → Option Nat
  | .restriction i => some i
  | _ => none

/-- The id of an authority record named. -/
def Source.authorityId : Source → Option Nat
  | .authority i => some i
  | _ => none

/-- The sources stand in the order of R78: segments in travel order, restrictions in list order, the overflow record, authority records in
slot order, and the far end after all of them (R88). -/
def State.namingOrder (s : State) (l : List Source) : Prop :=
  (l.map Source.rank).Pairwise (fun a b => a ≤ b) ∧
  (match s.aut.selected with
    | .up => (l.filterMap Source.segmentIndex).Pairwise (fun a b => a < b)
    | .down => (l.filterMap Source.segmentIndex).Pairwise (fun a b => b < a)) ∧
  (l.filterMap Source.restrictionId).Sublist (s.lrs.restrictions.map Restriction.id) ∧
  (l.filterMap Source.authorityId).Sublist (s.aut.chain.map Authority.id)

/-- The value of a mode cap while its condition holds (R85). -/
def State.capInForce (s : State) (c : Cap) : Option Nat :=
  match c with
  | .mode => if s.ctl.mode = .start ∨ s.ctl.mode = .ready ∨ s.ctl.mode = .parked ∨ s.ctl.mode = .waking then some 0 else none
  | .unknownPosition => if s.ctl.mode = .service ∧ s.pou.last.posState = .unknown then some 0 else none
  | .noAuthority => if s.ctl.mode = .service ∧ s.aut.chain = [] then some 0 else none
  | .search => if s.ctl.mode = .service ∧ s.pou.last.posState = .lost then some s.cfg.searchSpeed else none
  | .lostLink => if s.ctl.mode = .service ∧ s.vru.link = .lost then some s.cfg.lostLinkSpeed else none
  | .shunt => if s.ctl.mode = .depot then some s.cfg.shuntSpeed else none
  | .ceiling => some 2000

/-! ## What a recomputation leaves (R76, R90 to R95) -/

/-- From `s` to `t` the SSU has recomputed, and no other event has moved it: v_perm, the supervision record and what was used are those of
`t`; a state held other than TRIP has moved to the one `supNext` gives from it, with W and I, a trip record of the values then held at
entry into TRIP, and the cause of the entry latched and no other of the three; in TRIP the state and the record stay, but that the
cause set gains OVERSPEED or EB_LOST_ON_RACK (R76, R87, R88, R90 to R95). -/
def Supervises (s t : State) : Prop :=
  (t.ssu.vPerm = t.permitted ∧ t.ssu.record = t.supRecord ∧ t.ssu.used = t.usedNow) ∧
  (s.ssu.state ≠ .trip → ∀ next : SupState × Option TripCause,
    next = supNext s.ssu.state t.pou.last.vMeas t.ssu.vPerm t.cfg.warnMargin t.cfg.intervMargin t.onRackWithoutEb →
    t.ssu.state = next.1 ∧
      t.ssu.trip = (match next.2 with
        | none => s.ssu.trip
        | some c => some { first := c, cHigh := t.pou.last.cHigh, vMeas := t.pou.last.vMeas, vPerm := t.ssu.vPerm,
                           set := BitVec.twoPow 7 (c.num - 1) })) ∧
  (s.ssu.state = .trip → t.ssu.state = .trip ∧ t.ssu.trip = s.ssu.trip.map (fun r => { r with set := r.set |||
    (if t.ssu.vPerm + t.cfg.intervMargin < t.pou.last.vMeas then 0b0000001#7
      else if t.ssu.vPerm < t.pou.last.vMeas ∧ t.onRackWithoutEb = true then 0b1000000#7 else 0#7) })) ∧
  (t.cmp.causes.getLsbD 0 = true ↔ s.cmp.causes.getLsbD 0 = true ∨ s.ssu.state ≠ .trip ∧ t.ssu.state = .trip) ∧
  (t.cmp.causes.getLsbD 1 = true ↔ s.cmp.causes.getLsbD 1 = true ∨
    (s.ssu.state = .clear ∨ s.ssu.state = .advise) ∧ t.ssu.state = .intervene) ∧
  (t.cmp.causes.getLsbD 2 = true ↔ s.cmp.causes.getLsbD 2 = true ∨ s.ssu.state = .clear ∧ t.ssu.state = .advise)

/-- The command has brought exactly one event of R76: the chain, the selected direction, the restriction list, the overflow record, the
closure set, the mode, EB availability or the link state has changed by it, once. A valley frame heard while the link is not UP, and a
silence that takes an UP link to LOST, change the link besides. -/
def State.recomputedOnce (s : State) (c : Instr) (t : State) : Prop :=
  match c with
  | .recordExpiry _ => t.aut ≠ s.aut
  | .selectDirection _ => t.aut ≠ s.aut
  | .grant _ _ _ _ _ _ _ _ => s.vru.link = .up ∧ t.aut ≠ s.aut
  | .shorten _ _ _ _ => s.vru.link = .up ∧ t.aut ≠ s.aut
  | .revoke _ _ _ => s.vru.link = .up ∧ t.aut ≠ s.aut
  | .restrict _ _ _ _ _ => t.lrs ≠ s.lrs
  | .lift _ => t.lrs ≠ s.lrs
  | .restrictFrame _ _ _ _ _ _ _ => s.vru.link = .up ∧ t.lrs ≠ s.lrs
  | .liftFrame _ _ _ => s.vru.link = .up ∧ t.lrs ≠ s.lrs
  | .flushOverflow _ _ => s.vru.link = .up ∧ t.lrs ≠ s.lrs
  | .stopClose _ _ _ => s.vru.link = .up ∧ t.lrs ≠ s.lrs
  | .stopOpen _ _ _ => s.vru.link = .up ∧ t.lrs ≠ s.lrs
  | .enterService => t.ctl.mode ≠ s.ctl.mode
  | .enterDepot _ => t.ctl.mode ≠ s.ctl.mode
  | .park => t.ctl.mode ≠ s.ctl.mode
  | .settleTimerExpiry => t.ctl.mode ≠ s.ctl.mode
  | .ebReadyChange _ => t.bcu.ebAvail ≠ s.bcu.ebAvail
  | .step5WatchEnd => t.bcu.ebAvail ≠ s.bcu.ebAvail
  | .silenceReaches4s => s.vru.link = .up ∧ t.vru.link = .silent
  | .silenceReachesLostLimit => s.vru.link ≠ .up ∧ t.vru.link ≠ s.vru.link
  | _ => False

/-- The record's remaining time runs out within `n` milliseconds, still AHEAD (R67). -/
def Authority.runsOutIn (n : Nat) (r : Authority) : Prop := r.occupation = .ahead ∧ ∃ left : Nat, r.leftMs = some left ∧ left ≤ n

/-! ## A side closed out (R136 to R139) -/

/-- What a withdrawal of its side makes of a leaf (R136), and what a close does (R137), with a warn lead in seconds: RELEASED returns to
LOCKED; OPEN with a dwell running goes to WARNING, or to CLOSING where the lead is 0. By a close OPEN without one goes there too, and the
attempt count and the hold-open mark are cleared, and a leaf CLOSING or REVERSING keeps that the close has reached it (log 39); by a
withdrawal of a side in PASSENGER mode it waits, and both are kept. Every other state stands. -/
def LeafRec.closedOutTo (asClose : Prop) (lead : Nat) (l m : LeafRec) : Prop :=
  (l.state = .released → m.state = .locked) ∧
  (∀ shut : LeafState × Option Nat,
    shut = (if lead = 0 then (.closing, some 5000) else (.warning, some (lead * 1000))) →
    (l.state = .opened → l.timer ≠ none → (m.state, m.timer) = shut) ∧
    (¬ asClose → (l.state = .opened → l.timer = none → m.state = .opened) ∧
      (l.state ≠ .released → m.holdOpen = l.holdOpen ∧ m.attempts = l.attempts)) ∧
    (asClose → (l.state = .opened → l.timer = none → (m.state, m.timer) = shut) ∧
      (l.state = .closing ∨ l.state = .reversing → m.closeAsked = true) ∧ m.holdOpen = false ∧ m.attempts = 0)) ∧
  (l.state ∈ [LeafState.opening, .reversing, .warning, .closing, .locking, .locked, .isolated, .fault] →
    m.state = l.state)

/-- The DCU has withdrawn both sides by itself: each has its closing-out mark, and every leaf is as R136 leaves it, in CREW mode as R137
does (R138). -/
def State.bothWithdrawn (s t : State) : Prop :=
  (∀ x : Side, (t.dcu.side x).closingOut = true) ∧
  ∀ l : Leaf, (s.dcu.leaf l).closedOutTo ((s.dcu.side (sideOfLeaf l)).mode = .crew) s.lrs.settings.warnLead (t.dcu.leaf l)

/-- R139, last paragraph: a side with no leaf in its cycle has no release stop. -/
def State.stopsTrue (s : State) : Prop := ∀ x : Side, s.sideInCycle x = false → (s.dcu.side x).stop = none

/-! ## What asks the wheel brake (R103, R114, R115, R118 to R121) -/

/-- A part of the BCU asks the wheel brake for a level: holding, INTERVENE, TRIP, or the step of the brake test that runs. -/
def State.asksWheelBrake (s : State) (x : WbLevel) : Prop :=
  (s.bcu.holdCmd = true ∧ x = .hold) ∨
  (s.ssu.state = .intervene ∧ s.engaged = false ∧ x = .service) ∨
  (s.ssu.state = .trip ∧ x = if s.engaged = true then .hold else .full) ∨
  ∃ n : Nat, s.bcu.test.running = some n ∧ x = if n = 4 ∧ s.bcu.step4Hold = false then .full else .hold

end Sys2Proof.Machine
end

