-- ==== Sys2Proof/WellFormed.lean ====
section
/-! DEFINITION. The commands that the two links, the input lines and the part's own timers can bring: an operand of a pin or a timer
lies in the range its rule gives, and a frame is one that the checks before its row let through. -/

namespace Sys2Proof

open Machine

/-- The address of a good frame: 0, or 1 to 250 (R213). -/
def addressOk (a : Byte) : Bool := a.toNat ≤ 250

/-- The pressures the WB input reads as (R99). -/
def levelOk (percent : Nat) : Bool := percent ≤ 100

/-- The commands as the part can meet them. -/
def wellFormed : Instr → Bool
  | .fullReset _ => true
  | .startSequence => true
  | .inputFilterSettled _ => true
  | .verifyWriteConfirmed _ _ => true
  | .wheelPulse _ => true
  | .pinionPulse => true
  | .markerPulse => true
  | .standstillDeclared => true
  | .positionUpdate => true
  | .ebReadyChange _ => true
  | .bandSwitchChange _ _ _ => true
  | .releaseTimerExpiry _ => true
  | .applyTimerExpiry _ => true
  | .wbPressureChange percent => levelOk percent
  | .followTimerExpiry => true
  | .step1Timeout => true
  | .step5WatchEnd => true
  | .buttonEdge _ _ => true
  | .openEndSwitch _ _ => true
  | .closedSwitchChange _ _ => true
  | .lockSwitchChange _ _ => true
  | .openStrokeTimeout _ => true
  | .closeStrokeTimeout _ => true
  | .lockTimeout _ => true
  | .dwellEnd _ => true
  | .warnLeadEnd _ => true
  | .doorSample _ _ stroke => stroke ≤ 1000
  | .stallTimeout _ => true
  | .recordExpiry slot => slot < 6
  | .silenceReaches4s => true
  | .silenceReachesLostLimit => true
  | .reportTimerExpiry => true
  | .burstTimerExpiry => true
  | .broadcastReportDelay => true
  | .restartTimerExpiry => true
  | .carFrameSent => true
  | .frameDiscarded _ => true
  | .frameGapTimeout _ => true
  | .foreignFrame addr => addr ≠ 0#8 && addressOk addr
  | .carKindFrame addr kind => addressOk addr && !isValleyKind kind
  | .grant addr _ _ _ _ _ _ _ => addressOk addr
  | .shorten addr _ _ _ => addressOk addr
  | .revoke addr _ _ => addressOk addr
  | .restrictFrame addr _ _ _ _ _ _ => addressOk addr
  | .liftFrame addr _ _ => addressOk addr
  | .flushOverflow addr _ => addressOk addr
  | .stopClose addr _ _ => addressOk addr
  | .stopOpen addr _ _ => addressOk addr
  | .probe addr _ => addressOk addr
  | .supplyLockout _ => true
  | .supplyNormal => true
  | .nvWriteConfirmed => true
  | .nvTimeLimit _ => true
  | .settleTimerExpiry => true
  | .readTransaction _ _ => true
  | .badFrame => true
  | .unknownRequest code => !requestCodes.contains code.toNat
  | .responseReady => true
  | .readPosition => true
  | .readSupervision => true
  | .readTrip => true
  | .readBrakes => true
  | .readDoors => true
  | .readObstruction _ => true
  | .readLink => true
  | .readTables _ => true
  | .readMode => true
  | .readCauses => true
  | .clearCauses _ => true
  | .setCauseMask _ => true
  | .lookupAt _ => true
  | .readSegment _ => true
  | .findStop _ => true
  | .readRestriction _ => true
  | .readAuthority _ => true
  | .readCarRecord => true
  | .readSettings => true
  | .setSetting _ _ => true
  | .setPosition _ => true
  | .selectDirection _ => true
  | .restrict _ _ _ _ _ => true
  | .lift _ => true
  | .tripReset => true
  | .driveRequest _ => true
  | .brakeTest _ => true
  | .doorRelease _ _ => true
  | .doorWithdraw _ => true
  | .doorClose _ => true
  | .doorIsolate _ => true
  | .doorRestore _ => true
  | .radioHold _ => true
  | .radioRestart => true
  | .enterService => true
  | .enterDepot _ => true
  | .park => true
  | .wake => true
  | .eraseTable _ _ => true
  | .openBatch _ _ _ => true
  | .putRecord _ image => imageLengthOk image && image.length ≤ 253
  | .commitBatch _ => true
  | .batchReset _ => true
  | .closeTable _ _ _ _ => true
  | .writeCarRecord _ _ image => image.length = 66
  | .programIdentity _ _ _ => true
  | .lockTable _ _ => true
  | .unlockTable _ _ => true

end Sys2Proof
end

