-- ==== Sys2Proof/Certificates/Slice0/Obligations.lean ====
section
/-! DEFINITION. The statements about the part that are offered for proof. Each is over every state unless its premises say otherwise;
`Keeps` is the frame: nothing changes but, at most, the blocks it lists. -/

open Sys2Proof Sys2Proof.Machine

/-! ## The machine -/

/-- The command at the front of the queue is taken off it and carried out on the state with the rest of the queue (log 1). -/
def Obligations.StepRunsTheFrontCommand : Prop :=
  ∀ (c : Instr) (rest : List Instr) (s : State), step (s.withPending (c :: rest)) = exec c (s.withPending rest)

/-- The model's choice of log 1: on an empty queue a step lets one millisecond pass. Where no step of START falls due in it (log 12; where
one does is StartVerifiesEveryTable), time alone changes no record, no mode, no supervision and no cause; after it a position
update is due exactly when 20 ms have passed since the last (R34), and standstill exactly when it is not declared and 1 s has
passed without a pulse (R33). -/
def Obligations.EmptyQueueLetsAMillisecondPass : Prop :=
  ∀ s : State, s.pending = [] → (elapse 1 s).startDue = false → ∃ t : State, step s = .next t ∧
    t.nv = s.nv ∧ t.lrs = s.lrs ∧ t.ssu = s.ssu ∧ t.ctl.mode = s.ctl.mode ∧ t.aut.selected = s.aut.selected ∧
    t.aut.chain.map Authority.id = s.aut.chain.map Authority.id ∧ t.pou.fine = s.pou.fine ∧ t.pou.u = s.pou.u ∧
    t.cmp.causes = s.cmp.causes ∧ t.vru.link = s.vru.link ∧
    t.pou.sincePulse = s.pou.sincePulse + 1 ∧ t.pou.sinceUpdate = s.pou.sinceUpdate + 1 ∧
    t.vru.silence = s.vru.silence + 1 ∧
    (Instr.positionUpdate ∈ t.pending ↔ 20 ≤ t.pou.sinceUpdate) ∧
    (Instr.standstillDeclared ∈ t.pending ↔ t.pou.standstill = false ∧ 1000 ≤ t.pou.sincePulse)

/-- Every command, whatever its operands and whatever the state, is carried out: it stops the part neither by a fault nor by a
refusal, and it touches neither the queue nor the count of free values. -/
def Obligations.EveryCommandCompletes : Prop :=
  ∀ (c : Instr) (s : State), ∃ t : State, exec c s = .next t ∧ t.pending = s.pending ∧ t.drawn = s.drawn

/-- FULL_RESET in every state: each block has the value its chapter gives after a full reset (R21, R27, R50, R56, R60, R62, R75, R99,
R124, R149, R171, R190, R203), with a band brake already shown applied APPLIED at once (R105), and the nonvolatile records stand where
no operation was in flight. -/
def Obligations.FullResetEffect : Prop :=
  ∀ (cut : Cut) (s : State), ∃ t : State, exec (.fullReset cut) s = .next t ∧
    (t.lrs.restrictions = [] ∧ t.lrs.overflow = none ∧ t.lrs.closure = [] ∧
      t.lrs.settings = { openDwell := 10, warnLead := 2, linkGrace := 6, wheelCirc := 15000 }) ∧
    (t.pou.fine = 0 ∧ t.pou.posState = .unknown ∧ t.pou.u = 65535 ∧ t.pou.uBase = 65535 ∧ t.pou.dR = 0 ∧ t.pou.dW = 0 ∧
      t.pou.lastDir = .up ∧ t.pou.standstill = false ∧ t.pou.vMeas = 0 ∧ t.pou.window = [] ∧
      t.pou.engagement = .disengaged ∧ t.pou.prevSeg = none ∧ t.pou.silenceDist = 0 ∧ t.pou.rollback = 0) ∧
    (t.aut.chain = [] ∧ t.aut.selected = .up) ∧
    (t.ssu.vPerm = 0 ∧ t.ssu.state = .advise ∧ t.ssu.trip = none ∧ t.ssu.record.source = .modeCap .mode) ∧
    (t.bcu.wbDemand = .hold ∧ t.bcu.wbFault = false ∧ t.bcu.ebAvail = false ∧ t.bcu.ebDegraded = false ∧
      t.bcu.ebDemand = false ∧ t.bcu.holdCmd = true ∧ t.bcu.holdConf = false ∧ t.bcu.driveReq = false ∧
      t.bcu.permission = false ∧ t.bcu.traction = false ∧ t.bcu.test = .notDone ∧ t.bcu.testRec = none ∧ t.bcu.follow = .following ∧
      t.bcu.followTimer = some 1500 ∧
      ∀ p : Band, (t.bcu.band p).demand = .apply ∧
        ((t.bcu.band p).state, (t.bcu.band p).timer) =
          if shownApplied (bandLevels s.inp.levels p) then (BandState.applied, none) else (.applying, some 800)) ∧
    (∀ l : Leaf, (t.dcu.leaf l).state = .fault ∧ (t.dcu.leaf l).timer = none ∧ (t.dcu.leaf l).attempts = 0 ∧
      (t.dcu.leaf l).holdOpen = false ∧ (t.dcu.leaf l).candidate = none ∧ (t.dcu.leaf l).obstruction = none ∧
      t.openDrive l = false ∧ t.closeDrive l = false) ∧
    (∀ x : Side, (t.dcu.side x).mode = .passenger ∧ (t.dcu.side x).closingOut = false ∧ (t.dcu.side x).stop = none ∧
      (t.dcu.side x).warning = false) ∧
    t.dcu.secure = false ∧
    (t.vru.xcvr = .on ∧ t.vru.link = .none ∧ t.vru.silence = 0 ∧ t.vru.lastTaken = none ∧ t.vru.queue = [] ∧
      t.vru.sending = none ∧ t.vru.reportTimer = none ∧ t.vru.txSeq = 0 ∧ t.vru.burstCount = 0 ∧ t.vru.owed = none ∧ t.vru.heardOther = false) ∧
    (t.nvc.runLock = false ∧ t.nvc.batch.state = .none ∧ t.nvc.batch.segments = [] ∧ t.nvc.batch.stops = [] ∧
      t.nvc.op = none ∧ t.nvc.opRec = none) ∧
    (t.ctl.mode = .start ∧ t.ctl.settle = none ∧ t.ctl.profileV = none ∧ t.ctl.stopsV = none ∧ t.ctl.carV = none) ∧
    (t.cmp.inProgress = none ∧ t.cmp.waiting = none ∧ t.cmp.readPos = 0 ∧ t.cmp.causes = 0 ∧
      t.cmp.mask = BitVec.allOnes 17 ∧ t.cmp.rdy = false ∧ t.cmp.attn = false) ∧
    (s.nvc.op = none → t.nv.records = s.nv.records ∧ t.nv.identity = s.nv.identity ∧ t.nv.idLock = s.nv.idLock ∧
      ∀ x : Table, (t.nv.info x).lock = (s.nv.info x).lock)

/-! ## Promises that every step keeps -/

/-- The reset state meets every promise stated below. -/
def Obligations.ResetMeetsEveryPromise : Prop :=
  State.reset.summaryTrue ∧ State.reset.guarded ∧ State.reset.linesTrue ∧ State.reset.aut.wellFormed ∧
    State.reset.lrs.wellFormed ∧ State.reset.recordsTrue ∧ State.reset.storeGuarded ∧ State.reset.storeOrdered ∧
    State.reset.pou.inRange ∧ State.reset.pou.u ≤ 65535 ∧ State.reset.fixesInRange ∧ State.reset.vru.queueBounded

/-- R110, last paragraph, and R147: release permission and the traction-permitted line are never active while a leaf is in a state
other than LOCKED or ISOLATED, while the brake test is neither PASSED nor PASSED_DEGRADED, or while supervision is INTERVENE
or TRIP; and the door summary is SECURE exactly while every leaf is LOCKED or ISOLATED. -/
def Obligations.TractionStaysGuarded : Prop :=
  ∀ s t : State, s.summaryTrue → s.guarded → step s = .next t → t.summaryTrue ∧ t.guarded

/-- RDY is active exactly while a response is waiting (R203), and ATTN exactly while a cause is both latched and enabled (R208). The
transmit queue holds at most 4 frames, at most one of them a REPORT (R161). -/
def Obligations.LinesFollowThePort : Prop :=
  ∀ s t : State, step s = .next t →
    (s.linesTrue → t.linesTrue) ∧ (s.vru.queueBounded → t.vru.queueBounded)

/-- R60: the chain holds at most 6 records, no two of one id, all in the selected direction, each but slot 0 starting where the one
before it ends. -/
def Obligations.ChainStaysWellFormed : Prop :=
  ∀ s t : State, s.aut.wellFormed → step s = .next t → t.aut.wellFormed

/-- R50: the restriction list holds at most 24 records, in rising order of start chainage, no two sharing an id and each with start
below end and a limit of 0 .. 2000. R25: the closure set holds no number twice, and only numbers of the CLOSED stop table. R58, R172:
with the profile table not CLOSED the list is empty and the overflow record absent. R174: the table of a running operation that
changes records is INCOMPLETE. -/
def Obligations.RestrictionListStaysWellFormed : Prop :=
  ∀ s t : State, step s = .next t →
    (s.lrs.wellFormed → t.lrs.wellFormed) ∧ (s.recordsTrue → t.recordsTrue)

/-- R188: while the run lock is set no record of the profile table, stop table or car record changes, with its identity block (R15), nor
any lock of them, and no nonvolatile operation can be started: an operation is in flight only in DEPOT with the run lock clear (R174).
The records of the profile and stop tables keep their order (R4, R11). -/
def Obligations.RunLockProtectsTheRecords : Prop :=
  ∀ s t : State, s.storeGuarded → step s = .next t →
    t.storeGuarded ∧
    (s.nvc.runLock = true → t.nv.records = s.nv.records ∧ t.nv.identity = s.nv.identity ∧ t.nv.idLock = s.nv.idLock ∧
      ∀ x : Table, (t.nv.info x).lock = (s.nv.info x).lock) ∧ (s.storeOrdered → t.storeOrdered)

/-- R30, R35: the fine position, D_r and D_w are held within 0 .. 1,677,721,599; and U within 0 .. 65,535, since R16 holds the values
that a fix gives it within that range. -/
def Obligations.PositionStaysInRange : Prop :=
  ∀ s t : State, s.pou.inRange → step s = .next t → t.pou.inRange ∧
    (s.fixesInRange → t.fixesInRange ∧ (s.pou.u ≤ 65535 → t.pou.u ≤ 65535))

/-- R35: U decreases only at an engagement fix, a marker fix or SET_POSITION (a full reset sets it to its top, 65,535), and each of
these zeroes D_r and D_w and leaves U equal to U_base. An engagement fix makes a SEEKING pinion ENGAGED. -/
def Obligations.UncertaintyFallsOnlyAtAFix : Prop :=
  ∀ (c : Instr) (s t : State), s.pou.u ≤ 65535 → exec c s = .next t → t.pou.u < s.pou.u →
    t.pou.u = t.pou.uBase ∧ t.pou.dR = 0 ∧ t.pou.dW = 0 ∧
      ((c = .pinionPulse ∧ s.pou.engagement.state = .seeking ∧ t.pou.engagement = .engaged ∧
          t.pou.u = s.cfg.uFixRack) ∨
        (c = .markerPulse ∧ s.pou.posState ≠ .unknown ∧ t.pou.u = s.cfg.uFixMarker) ∨
        ((∃ x : Chain, c = .setPosition x) ∧ t.pou.posState = .known ∧ t.pou.u = s.cfg.uSet))

/-- R90, R94 to R96: TRIP is left only by TRIP_RESET at standstill or by a full reset; until then the trip record keeps its first cause,
C_high, v_meas and v_perm, and its cause set loses nothing. -/
def Obligations.TripIsLeftOnlyByReset : Prop :=
  ∀ (c : Instr) (s t : State) (r : TripRecord), s.ssu.state = .trip → s.ssu.trip = some r → exec c s = .next t →
    (∃ cut : Cut, c = .fullReset cut) ∨ (c = .tripReset ∧ s.pou.standstill = true) ∨
      (t.ssu.state = .trip ∧ ∃ q : TripRecord, t.ssu.trip = some q ∧ r.extends q)

/-- R190: the mode changes only by the events of its table. -/
def Obligations.ModeMovesOnlyByItsTable : Prop :=
  ∀ (c : Instr) (s t : State), exec c s = .next t → modeMoves c s.ctl.mode t.ctl.mode

/-- R128, second paragraph: a leaf leaves LOCKED for its open cycle only by a DOOR_RELEASE of its own side, with the car at standstill
and holding confirmed and, in SERVICE, with its worst-case span wholly inside one window of a stop record that is not in the
closure set, includes the leaf's side and has a tolerance of U or more. -/
def Obligations.LeafIsReleasedOnlyAtAStop : Prop :=
  ∀ (c : Instr) (s t : State) (l : Leaf), exec c s = .next t → (s.dcu.leaf l).state = .locked →
    (t.dcu.leaf l).state.inCycle = true →
    (∃ side mode : Byte, c = .doorRelease side mode ∧ sideOf side = some (sideOfLeaf l)) ∧
      s.pou.standstill = true ∧ s.bcu.holdConf = true ∧
      (s.ctl.mode = .service → ∃ p ∈ s.lineStops, ∃ w ∈ p.windows, p.number ∉ s.lrs.closure ∧
        p.sides.includes (sideOfLeaf l) = true ∧ s.pou.last.u ≤ p.tolerance ∧
        leafInside s.pou.last.cHigh s.pou.last.u s.cfg.carLength (s.cfg.leaf l) w = true)

/-! ## Frames on the two links -/

/-- A well-formed request, sent as R205 and R214 lay it out with its CRC-8, is read back as that request with every argument. -/
def Obligations.RequestFramesRoundTrip : Prop :=
  ∀ (i : Instr) (code : Byte) (args : List Byte), wellFormed i = true → encodeRequest i = some (code, args) →
    decodeTransaction (keyOf i) (requestFrame code args) = some i

/-- A well-formed valley frame, sent as R153, R154 and R213 lay it out with its CRC-16, is read back as that frame with every body
field, by the car it is addressed to and, with address 0, by every car; a car with another address reads a foreign frame
(R155). -/
def Obligations.ValleyFramesRoundTrip : Prop :=
  ∀ (i : Instr) (addr kind seq : Byte) (body : List Byte) (latched : Option Nat), wellFormed i = true →
    encodeBody i = some (addr, kind, seq, body) →
    decodeRadioFrame latched (radioFrame addr kind seq body) =
      if addr = 0#8 ∨ latched = some addr.toNat then some i else some (.foreignFrame addr)

/-- What each command may change at all, for every one of the 106: nothing changes but the blocks `touches` lists for it. -/
def Obligations.EveryCommandStaysInItsBlocks : Prop :=
  ∀ (c : Instr) (s t : State), exec c s = .next t → Keeps (touches c) s t

/-! ## Start -/

/-- START_SEQUENCE in START (R19, R21, R192, R193): each CLOSED table is MATCHED and stays CLOSED where its check word is the one stored,
and is else MISMATCHED, CORRUPT (the car record INCOMPLETE) and without check word, leaving CLOSED with the effects of R25 and R58 on the
closure set, the restriction list and the overflow record; any other table is NOT_CLOSED and stands; no record and no lock changes. The
address is latched and the settings copied from a car record then CLOSED; else none is latched and the fallback values are copied. The
mode becomes READY. The model's choice of log 12 is that the part's clock takes the steps before the settings one by one, in the order
of R192, and that the command carries out those not yet taken: a table already verified and an address already latched stand, and
where a step falls due in a millisecond of the clock it is the first one not yet taken. -/
def Obligations.StartVerifiesEveryTable : Prop :=
  (∀ s : State, s.ctl.mode = .start → s.nvc.op = none → ∃ t : State, exec .startSequence s = .next t ∧
    t.ctl.mode = .ready ∧ t.ctl.startTimer = none ∧ t.nv.records = s.nv.records ∧
    (∀ x : Table, (t.nv.info x).lock = (s.nv.info x).lock ∧
      (s.ctl.verified x ≠ none → t.nv.info x = s.nv.info x ∧ t.ctl.verified x = s.ctl.verified x) ∧
      (s.ctl.verified x = none →
        ((s.nv.info x).state ≠ .closed → t.nv.info x = s.nv.info x ∧
          t.ctl.verified x = some { found := (s.nv.info x).state, outcome := .notClosed }) ∧
        ((s.nv.info x).state = .closed → (s.nv.info x).check = some (s.nv.checkWord x) → t.nv.info x = s.nv.info x ∧
          t.ctl.verified x = some { found := .closed, outcome := .matched }) ∧
        ((s.nv.info x).state = .closed → (s.nv.info x).check ≠ some (s.nv.checkWord x) →
          (t.nv.info x).state = (if x = .car then .incomplete else .corrupt) ∧ (t.nv.info x).check = none ∧
          t.lrs.emptiedBy x ∧ t.ctl.verified x = some { found := .closed, outcome := .mismatched }))) ∧
    t.vru.hunting = true ∧
    t.vru.latched = (if s.vru.hunting = true then s.vru.latched
      else if (t.nv.info .car).state = .closed then s.nv.config.map CarConfig.address else none) ∧
    (∀ c : CarConfig,
      c = (if (t.nv.info .car).state = .closed then s.nv.config.getD fallbackConfig else fallbackConfig) →
      t.lrs.settings =
        { openDwell := c.openDwell, warnLead := c.warnLead, linkGrace := c.linkGrace, wheelCirc := c.wheelCirc })) ∧
  (∀ s : State, s.pending = [] → s.ctl.mode = .start → (elapse 1 s).startDue = true → ∃ t : State, step s = .next t ∧
    t.ctl.mode = .start ∧ t.nv.records = s.nv.records ∧ t.lrs.settings = s.lrs.settings ∧
    (s.ctl.carV = none → t.ctl.carV = some { found := (s.nv.info .car).state, outcome := s.nv.verify .car } ∧
      t.ctl.profileV = s.ctl.profileV ∧ t.ctl.stopsV = s.ctl.stopsV ∧ t.vru.hunting = s.vru.hunting) ∧
    (s.ctl.carV ≠ none → s.vru.hunting = false → t.vru.hunting = true ∧ t.nv = s.nv ∧
      t.vru.latched = (if (s.nv.info .car).state = .closed then s.nv.config.map CarConfig.address else none) ∧
      t.ctl.carV = s.ctl.carV ∧ t.ctl.profileV = s.ctl.profileV ∧ t.ctl.stopsV = s.ctl.stopsV) ∧
    (s.ctl.carV ≠ none → s.vru.hunting = true → t.vru.hunting = true ∧ t.vru.latched = s.vru.latched ∧
      t.ctl.carV = s.ctl.carV ∧
      (s.ctl.profileV = none → t.ctl.stopsV = s.ctl.stopsV ∧
        t.ctl.profileV = some { found := (s.nv.info .profile).state, outcome := s.nv.verify .profile }) ∧
      (s.ctl.profileV ≠ none → t.ctl.profileV = s.ctl.profileV ∧
        t.ctl.stopsV = some { found := (s.nv.info .stops).state, outcome := s.nv.verify .stops })))

/-- INPUT_FILTER_SETTLED after a full reset (R101, R124): each leaf is LOCKED where its closed and lock switches are both made and FAULT
otherwise, EB availability follows the EB_READY line and the degraded mark, and the levels stand as taken. Where no filter is
settling the event is over, and nothing changes. -/
def Obligations.LeavesTakeTheirSwitchesAfterReset : Prop :=
  ∀ (i : InputLevels) (s : State),
    (s.inp.settling ≠ none → ∃ t : State, exec (.inputFilterSettled i) s = .next t ∧
      (∀ l : Leaf, (t.dcu.leaf l).state =
        if (leafLevels i l).closed = true ∧ (leafLevels i l).lock = true then .locked else .fault) ∧
      (t.bcu.ebAvail = true ↔ i.ebReady = true ∧ s.bcu.ebDegraded = false) ∧
      t.inp.levels = i ∧ t.inp.settling = none ∧ t.inp.pressure = s.inp.pressure) ∧
    (s.inp.settling = none → ∃ t : State, exec (.inputFilterSettled i) s = .next t ∧ Keeps [.transmitter] s t)

/-! ## Position -/

/-- WHEEL_PULSE (R28 to R30, R33, R35, R43, R44, R47): the direction is stored, standstill ends and its 1 s starts anew. Not ENGAGED,
the pulse, worth wheel circumference by pulses per revolution, moves the fine position within its range, enters the speed window, adds
to D_w and never lowers U; against the selected direction it adds to the rollback accumulator in SERVICE, DEPOT, PARKED and WAKING, and
else sets it to 0. SEEKING, it adds to the wheel distance of the seek; an ON_RACK seek that so reaches 200 cm without its fault flag
sets it and reports ENGAGE_FAULT (R43, R93, R95). ENGAGED, it adds to the silence distance alone; where that reaches 3 pitches the
pinion is no longer ENGAGED: SEEKING with the SSU in TRIP where its point lies on RACK, DISENGAGED elsewhere, and this pulse is the
first counted on the wheel. That the first cause is ENGAGE_FAULT, or PINION_SIGNAL, where the pulse raises ROLLBACK too is the model's
choice of log 47, and that the wheel distance of the seek so begun starts with this pulse that of log 20. -/
def Obligations.WheelPulseIsCounted : Prop :=
  (∀ (d : Direction) (s : State) (dist : Nat), s.pou.engagement.state ≠ .engaged →
    dist = s.lrs.settings.wheelCirc / s.cfg.wheelPulses → ∃ t : State, exec (.wheelPulse d) s = .next t ∧
    t.pou.lastDir = d ∧ t.pou.standstill = false ∧ t.pou.sincePulse = 0 ∧
    t.pou.fine = (match d with
      | .up => min (s.pou.fine + dist) 1677721599
      | .down => s.pou.fine - dist) ∧
    t.pou.window = { age := 0, dist := dist } :: s.pou.window ∧
    t.pou.dW = min (s.pou.dW + dist) 1677721599 ∧ t.pou.dR = s.pou.dR ∧ t.pou.uBase = s.pou.uBase ∧
    t.pou.u = max s.pou.u (min (s.pou.uBase + s.pou.dR / 100 * s.cfg.eRack / 1000 +
      t.pou.dW / 100 * s.cfg.eWheel / 1000) 65535) ∧
    t.pou.rollback = (if d ≠ s.aut.selected ∧ s.ctl.mode ≠ .start ∧ s.ctl.mode ≠ .ready then
      min (s.pou.rollback + dist) 6553500 else 0) ∧
    t.pou.posState = s.pou.posState ∧ t.pou.vMeas = s.pou.vMeas ∧ t.pou.last = s.pou.last ∧
    t.pou.engagement.state = s.pou.engagement.state ∧
    (∀ r : Seek, s.pou.engagement = .seeking r →
      (r.kind ≠ .onRack ∨ r.wheelDist + dist < 20000 ∨ r.fault = true →
        t.pou.engagement = .seeking { r with wheelDist := r.wheelDist + dist }) ∧
      (r.kind = .onRack → 20000 ≤ r.wheelDist + dist → r.fault = false →
        t.pou.engagement = .seeking { r with wheelDist := r.wheelDist + dist, fault := true } ∧ t.ssu.state = .trip ∧
        (s.ssu.state ≠ .trip → t.ssu.trip.map TripRecord.first = some .engageFault ∧ t.cmp.causes.getLsbD 0 = true) ∧
        (∀ q : TripRecord, s.ssu.state = .trip → s.ssu.trip = some q →
          ∃ q' : TripRecord, t.ssu.trip = some q' ∧ q.extends q' ∧ q'.set.getLsbD 2 = true)))) ∧
  (∀ (d : Direction) (s : State) (dist : Nat), s.pou.engagement = .engaged →
    dist = s.lrs.settings.wheelCirc / s.cfg.wheelPulses → ∃ t : State, exec (.wheelPulse d) s = .next t ∧
    t.pou.lastDir = d ∧ t.pou.standstill = false ∧ t.pou.sincePulse = 0 ∧
    (s.pou.silenceDist + dist < 3 * s.cfg.rackPitch →
      t.pou.engagement = .engaged ∧ t.pou.silenceDist = s.pou.silenceDist + dist ∧ t.pou.fine = s.pou.fine ∧
      t.pou.window = s.pou.window ∧ t.pou.dW = s.pou.dW ∧ t.pou.u = s.pou.u ∧ t.pou.rollback = s.pou.rollback ∧
      t.ssu = s.ssu) ∧
    (3 * s.cfg.rackPitch ≤ s.pou.silenceDist + dist →
      t.pou.dW = min (s.pou.dW + dist) 1677721599 ∧ t.pou.window = { age := 0, dist := dist } :: s.pou.window ∧
      t.pou.rollback = (if d ≠ s.aut.selected ∧ s.ctl.mode ≠ .start ∧ s.ctl.mode ≠ .ready then
        min (s.pou.rollback + dist) 6553500 else 0) ∧
      (if (s.pinionSegment.map (fun p => p.seg.kind)) = some .rack then
        t.pou.engagement.state = .seeking ∧ t.ssu.state = .trip ∧
        (dist < 20000 → t.pou.engagement =
          .seeking { kind := .onRack, wheelDist := dist, ref := none, good := 0, fault := false }) ∧
        (s.ssu.state ≠ .trip → t.ssu.trip.map TripRecord.first = some .pinionSignal)
      else t.pou.engagement = .disengaged)))

/-- PINION_PULSE (R29, R33, R41, R42): it ends standstill. DISENGAGED, it counts nothing. ENGAGED, it is worth the rack pitch in the
last direction and ends the silence; U is worked out anew and does not fall (R35), and against the selected direction the rollback
accumulator grows, whose reaching the limit is reported once: the car is in TRIP with cause ROLLBACK, its bands asked to APPLY and its
WB to HOLD (R47, R48, R115), or in TRIP already has ROLLBACK in its cause set (R95). SEEKING, the first sets the spacing reference; each
later one raises the count of good spacings where the wheel distance since the reference lies within a tenth of the pitch, and else sets
it to 0; at 8 the pinion is ENGAGED, and an ENTRY seek fixes the position. That a place of the entry fix outside the range of R30 is
held at its end is the model's choice of log 28. -/
def Obligations.PinionPulseByEngagement : Prop :=
  ∀ s : State, ∃ t : State, exec .pinionPulse s = .next t ∧
    t.pou.standstill = false ∧ t.pou.sincePulse = 0 ∧ t.pou.lastDir = s.pou.lastDir ∧
    (s.pou.engagement = .disengaged →
      t.pou.engagement = .disengaged ∧ t.pou.fine = s.pou.fine ∧ t.pou.window = s.pou.window ∧ t.pou.u = s.pou.u) ∧
    (s.pou.engagement = .engaged →
      t.pou.engagement = .engaged ∧ t.pou.silenceDist = 0 ∧
      t.pou.fine = moveFine s.pou.lastDir s.cfg.rackPitch s.pou.fine ∧
      t.pou.dR = min (s.pou.dR + s.cfg.rackPitch) 1677721599 ∧ t.pou.dW = s.pou.dW ∧
      t.pou.window = { age := 0, dist := s.cfg.rackPitch } :: s.pou.window ∧ t.pou.uBase = s.pou.uBase ∧
      t.pou.u = max s.pou.u (min (s.pou.uBase + t.pou.dR / 100 * s.cfg.eRack / 1000 +
        s.pou.dW / 100 * s.cfg.eWheel / 1000) 65535) ∧
      t.pou.rollback = (if s.pou.lastDir ≠ s.aut.selected ∧ s.ctl.mode ≠ .start ∧ s.ctl.mode ≠ .ready then
        min (s.pou.rollback + s.cfg.rackPitch) 6553500 else 0) ∧
      ∀ due : Prop, (due ↔ s.pou.lastDir ≠ s.aut.selected ∧ s.ctl.mode ≠ .start ∧ s.ctl.mode ≠ .ready ∧
          s.pou.rollbackReported = false ∧ s.cfg.rollbackLimit * 100 ≤ min (s.pou.rollback + s.cfg.rackPitch) 6553500) →
        (¬ due → t.ssu = s.ssu) ∧
        (due → t.pou.rollbackReported = true ∧ t.ssu.state = .trip) ∧
        (due → s.ssu.state ≠ .trip →
          t.ssu.trip = some { first := .rollback, cHigh := s.pou.last.cHigh, vMeas := s.pou.last.vMeas,
                              vPerm := s.ssu.vPerm, set := 0b0000010#7 } ∧
          t.cmp.causes.getLsbD 0 = true ∧ t.bcu.ebDemand = true ∧ t.bcu.driveReq = false ∧ t.bcu.permission = false ∧
          t.bcu.traction = false ∧ t.bcu.wbDemand = .hold ∧ t.bcu.pb1.demand = .apply ∧ t.bcu.pb2.demand = .apply) ∧
        (due → s.ssu.state = .trip →
          t.ssu.trip = s.ssu.trip.map (fun q => { q with set := q.set ||| 0b0000010#7 }))) ∧
    (∀ r : Seek, s.pou.engagement = .seeking r → r.ref = none → r.good < 8 →
      t.pou.engagement = .seeking { r with ref := some r.wheelDist } ∧ t.pou.fine = s.pou.fine) ∧
    (∀ (r : Seek) (w n : Nat), s.pou.engagement = .seeking r → r.ref = some w →
      n = (if 9 * s.cfg.rackPitch ≤ 10 * (r.wheelDist - w) ∧ 10 * (r.wheelDist - w) ≤ 11 * s.cfg.rackPitch then
        r.good + 1 else 0) →
      (n < 8 → t.pou.engagement = .seeking { r with ref := some r.wheelDist, good := n } ∧
        t.pou.fine = s.pou.fine ∧ t.pou.u = s.pou.u) ∧
      (8 ≤ n → t.pou.engagement = .engaged ∧ t.pou.silenceDist = 0 ∧
        (r.kind = .onRack → t.pou.fine = s.pou.fine ∧ t.pou.u = s.pou.u) ∧
        (∀ (adh rack : Nat) (d : Direction), r.kind = .entry adh rack d →
          t.pou.fine = entryFine s.cfg adh d ∧ t.pou.uBase = s.cfg.uFixRack ∧ t.pou.u = s.cfg.uFixRack ∧
          t.pou.dR = 0 ∧ t.pou.dW = 0 ∧ t.pou.posState ≠ .lost ∧ t.cmp.causes.getLsbD 13 = true)))

/-- R45: a marker pulse is ignored while the position is UNKNOWN. Else exactly one stop marker within U + 100 cm of the reader point
puts the reader point there, with U at U_FIX_MARKER, and a LOST position becomes KNOWN; none or several change no position, and each
outcome latches its own cause. Engagement and the rollback accumulator stand. That the fine position so placed is held at
1,677,721,599, the top of R30, is the model's choice of log 28. -/
def Obligations.MarkerPulseFixesOnOneMarker : Prop :=
  ∀ s : State, ∃ t : State, exec .markerPulse s = .next t ∧ Keeps [.pou, .causes, .transmitter] s t ∧
    t.pou.engagement = s.pou.engagement ∧
    (s.pou.posState = .unknown → Keeps [.transmitter] s t) ∧
    (s.pou.posState ≠ .unknown → ∀ found : List (Nat × Nat),
      found = markerLookup s.lineStops s.readerPoint (s.pou.u + 100) →
      (found = [] → Keeps [.causes, .transmitter] s t ∧ t.cmp.causes = s.cmp.causes ||| BitVec.twoPow 17 15) ∧
      (2 ≤ found.length → Keeps [.causes, .transmitter] s t ∧ t.cmp.causes = s.cmp.causes ||| BitVec.twoPow 17 16) ∧
      (∀ m : Nat × Nat, found = [m] →
        t.pou.fine = min (((m.2 : Int) + s.cfg.carLength - s.cfg.readerOffset) * 100).toNat 1677721599 ∧
        t.pou.uBase = s.cfg.uFixMarker ∧ t.pou.u = s.cfg.uFixMarker ∧ t.pou.dR = 0 ∧ t.pou.dW = 0 ∧
        t.pou.posState = .known ∧ t.cmp.causes = s.cmp.causes ||| BitVec.twoPow 17 13))

/-- R32, R33, R47: standstill declared sets v_meas to 0, and zeroes the rollback accumulator where the BCU confirms holding. A car held
at standstill without release permission or drive request has holding commanded (R108). -/
def Obligations.StandstillIsDeclared : Prop :=
  ∀ s : State, s.pou.standstill = false → ∃ t : State, exec .standstillDeclared s = .next t ∧
    t.pou.standstill = true ∧ t.pou.vMeas = 0 ∧ t.pou.fine = s.pou.fine ∧ t.pou.u = s.pou.u ∧
    (t.bcu.holdConf = true → t.pou.rollback = 0) ∧
    (t.bcu.permission = false ∨ t.bcu.driveReq = false → t.bcu.holdCmd = true)

/-- R34: a position update brings the 20 ms to their end and publishes C_high, U, the position state, v_meas, the direction of motion,
standstill and engagement as the POU then holds them; v_meas is the distance of the last 200 ms, 0 at standstill (R32); a KNOWN position
with U above U_MAX is LOST (R36); the SSU's v_perm and supervision record are those of the state reached (R76, R87, R88); and, where no
record has run out, the link stands and the pinion reports no ENGAGE_FAULT, the supervision state is the one R90 and R91 give from the
state held, with its trip record and its cause (R92, R94, R95). A DISENGAGED car enters the seek its pinion point and the segment found
before give (R40); a seek is abandoned in ADHESION or off the line, and reports ENGAGE_FAULT once, 200 cm past the rack boundary (R43). A
record whose remaining time runs out, still AHEAD, in the time up to the update is retired with those after it and does not become
OCCUPIED at this update (R67, R68). Unless the link is lost at this update, the records whose end the rear has passed are trimmed from
slot 0, and those left are OCCUPIED once the front has reached their start, with the time they then hold (R65, R66). The link is judged by
the limit that stood until the update, then S is read again and it is judged by the limit that gives (R165, R166). The model's choice is
that the command lets the time to its 20 ms boundary pass, so that pulses age and timers run by it, with an expiry, the old limit and
standstill taken before the update and the events of every other timer after it (log 2), that a pulse exactly 200 ms old still counts (log
19), and that abandoning comes before the fault (log 48). -/
def Obligations.PositionUpdateIsPublished : Prop :=
  ∀ s : State, ∃ t : State, exec .positionUpdate s = .next t ∧
    t.pou.sinceUpdate = 0 ∧ t.pou.last.cHigh = t.pou.fine / 100 ∧ t.pou.last.u = t.pou.u ∧
    t.pou.last.posState = t.pou.posState ∧ t.pou.last.vMeas = t.pou.vMeas ∧ t.pou.last.motion = t.pou.motion ∧
    t.pou.last.standstill = t.pou.standstill ∧ t.pou.last.engagement = t.pou.engagement.state ∧
    t.pou.fine = s.pou.fine ∧ t.pou.u = s.pou.u ∧
    (t.pou.standstill = true ↔ s.pou.standstill = true ∨ 1000 ≤ s.pou.sincePulse + (20 - s.pou.sinceUpdate)) ∧
    (t.pou.standstill = true → t.pou.vMeas = 0) ∧
    (t.pou.standstill = false → t.pou.vMeas = min (((s.pou.window.filter
      (fun w => w.age + (20 - s.pou.sinceUpdate) ≤ 200)).map WindowPulse.dist).sum / 20) 2000) ∧
    t.pou.posState = (if s.pou.posState = .known ∧ s.cfg.uMax < s.pou.u then .lost else s.pou.posState) ∧
    (s.pou.posState = .unknown → t.pou.engagement = .disengaged) ∧
    (s.pou.posState ≠ .unknown → s.pou.engagement = .disengaged →
      (s.pinionSegment = none → t.pou.engagement = .disengaged) ∧
      (∀ p : Placed, s.pinionSegment = some p →
        (p.seg.kind = .adhesion → t.pou.engagement = .disengaged) ∧
        (p.seg.kind = .rack → t.pou.engagement =
          .seeking { kind := .onRack, wheelDist := 0, ref := none, good := 0, fault := false }) ∧
        (p.seg.kind = .transition → ∀ (q : Placed) (h : Nat), s.pou.prevSeg = some q → p.hi = some h →
          (q.seg.kind ≠ .adhesion → t.pou.engagement = .disengaged) ∧
          (q.seg.kind = .adhesion → q.index + 1 = p.index → t.pou.engagement =
            .seeking { kind := .entry p.lo h .up, wheelDist := 0, ref := none, good := 0, fault := false }) ∧
          (q.seg.kind = .adhesion → p.index + 1 = q.index → t.pou.engagement =
            .seeking { kind := .entry h p.lo .down, wheelDist := 0, ref := none, good := 0, fault := false })) ∧
        (p.seg.kind = .transition → s.pou.prevSeg = none → t.pou.engagement = .disengaged))) ∧
    (∀ r : Seek, s.pou.posState ≠ .unknown → s.pou.engagement = .seeking r →
      (s.pinionSegment = none → t.pou.engagement = .disengaged) ∧
      (∀ p : Placed, s.pinionSegment = some p → p.seg.kind = .adhesion → t.pou.engagement = .disengaged) ∧
      (∀ p : Placed, s.pinionSegment = some p → p.seg.kind ≠ .adhesion →
        (∀ adh rack : Nat, r.fault = false →
          (r.kind = .entry adh rack .up ∧ (rack : Int) + 200 ≤ s.pinionPoint ∨
            r.kind = .entry adh rack .down ∧ s.pinionPoint ≤ (rack : Int) - 200) →
          t.pou.engagement = .seeking { r with fault := true } ∧ t.ssu.state = .trip) ∧
        (r.kind = .onRack ∨ r.fault = true → t.pou.engagement = .seeking r) ∧
        (∀ adh rack : Nat,
          (r.kind = .entry adh rack .up ∧ s.pinionPoint < (rack : Int) + 200 ∨
            r.kind = .entry adh rack .down ∧ (rack : Int) - 200 < s.pinionPoint) →
          t.pou.engagement = .seeking r))) ∧
    (s.pou.posState ≠ .unknown → s.pou.engagement = .engaged → t.pou.engagement = .engaged) ∧
    t.aut.selected = s.aut.selected ∧
    (∃ live gone : List Authority, s.aut.chain = live ++ gone ∧
      (∀ r ∈ live, ¬ r.runsOutIn (20 - s.pou.sinceUpdate)) ∧
      (∀ r ∈ gone.head?, r.runsOutIn (20 - s.pou.sinceUpdate)) ∧
      (gone ≠ [] → t.cmp.causes.getLsbD 4 = true) ∧
      ((t.vru.link = .lost → s.vru.link = .lost) → ∃ k : Nat,
        t.aut.chain.map Authority.id = (live.map Authority.id).drop k ∧
        (∀ r ∈ live.take k, beyond t.aut.selected t.rear r.stop = true) ∧
        (∀ r : Authority, live[k]? = some r → beyond t.aut.selected t.rear r.stop = false) ∧
        (0 < k → t.cmp.causes.getLsbD 4 = true) ∧
        ∀ (i : Nat) (q r : Authority), t.aut.chain[i]? = some q → live[i + k]? = some r →
          q.start = r.start ∧ q.stop = r.stop ∧ q.cap = r.cap ∧
            q.leftMs = (if r.occupation = .occupied then r.leftMs
              else r.leftMs.map (fun left => left - (20 - s.pou.sinceUpdate))) ∧
            q.occupation = (if r.occupation = .occupied ∨ beyond t.aut.selected t.front r.start = true then .occupied
              else .ahead))) ∧
    t.vru.shadow = t.shadowNow ∧ t.vru.silence = s.vru.silence + (20 - s.pou.sinceUpdate) ∧
    t.vru.link = (if s.vru.link ≠ .lost ∧ (s.lostLimit ≤ t.vru.silence ∨ t.lostLimit ≤ t.vru.silence) then .lost
      else if s.vru.link = .up ∧ 4000 ≤ t.vru.silence then .silent else s.vru.link) ∧
    t.ssu.vPerm = t.permitted ∧ t.ssu.record = t.supRecord ∧ t.ssu.used = t.usedNow ∧
    (s.ssu.state = .trip → t.ssu.state = .trip) ∧
    ((∀ r ∈ s.aut.chain, ¬ r.runsOutIn (20 - s.pou.sinceUpdate)) → t.vru.link = s.vru.link →
      (∀ r : Seek, s.pou.engagement = .seeking r → r.fault = false → t.pou.engagement ≠ .seeking { r with fault := true }) →
      Supervises s t)

/-! ## Speed supervision -/

/-- R85 to R87: the permitted speed is the lowest of the mode cap, the over-body limit and every target's braking curve, and is one of
them. Outside SERVICE and DEPOT, and in SERVICE with the position UNKNOWN or without a movement authority, it is 0; in DEPOT, and in
SERVICE with the position or the link LOST, it exceeds none of the caps the car record gives. The mode cap is the lowest in force, the
first in the order of R85 where several are (R86). The contributors to the over-body limit are those of R77, of which the first of the
lowest is its source (R78). The targets are those of R79 and R80, each with its distance, its effective deceleration, by the lowest term
of the segments on the way (R81, R82), and its curve. The supervision record names the mode cap where it gives v_perm, else the over-body
limit, else the nearest target that does, in the order of R78 with the far end last, its near boundary and its deceleration (R88). -/
def Obligations.PermittedSpeedIsTheLowest : Prop :=
  ∀ s : State, s.permitted ≤ s.modeCap.1 ∧ (∀ x ∈ s.contributors, s.permitted ≤ x.1) ∧
    (∀ x ∈ s.targets, s.permitted ≤ x.curve) ∧
    (s.permitted = s.modeCap.1 ∨ (∃ x ∈ s.contributors, s.permitted = x.1) ∨ ∃ x ∈ s.targets, s.permitted = x.curve) ∧
    s.permitted ≤ 2000 ∧
    (s.ctl.mode ≠ .service → s.ctl.mode ≠ .depot → s.permitted = 0) ∧
    (s.ctl.mode = .service → s.pou.last.posState = .unknown ∨ s.aut.chain = [] → s.permitted = 0) ∧
    (s.ctl.mode = .service → s.pou.last.posState = .lost → s.permitted ≤ s.cfg.searchSpeed) ∧
    (s.ctl.mode = .service → s.vru.link = .lost → s.permitted ≤ s.cfg.lostLinkSpeed) ∧
    (s.ctl.mode = .depot → s.permitted ≤ s.cfg.shuntSpeed) ∧
    (s.capInForce s.modeCap.2 = some s.modeCap.1 ∧ ∀ (c : Cap) (w : Nat), s.capInForce c = some w →
      s.modeCap.1 < w ∨ s.modeCap.1 = w ∧ s.modeCap.2.num ≤ c.num) ∧
    (∀ (v : Nat) (src : Source), (v, src) ∈ s.contributors ↔ s.contributes v src) ∧
    s.namingOrder (s.contributors.map Prod.snd) ∧
    (s.overBody = none ↔ s.contributors = []) ∧
    (∀ x : Nat × Source, s.overBody = some x → ∃ pre post : List (Nat × Source), s.contributors = pre ++ x :: post ∧
      (∀ y ∈ pre, x.1 < y.1) ∧ ∀ y ∈ post, x.1 ≤ y.1) ∧
    (∀ x : Target, x ∈ s.targets ↔ s.isTarget x) ∧ s.namingOrder (s.targets.map Target.source) ∧
    s.supRecord.overBody = s.overBody.map Prod.fst ∧
    (s.modeCap.1 = s.permitted → s.supRecord.source = .modeCap s.modeCap.2 ∧ s.supRecord.target = none ∧
      s.supRecord.aEff = none) ∧
    (s.modeCap.1 ≠ s.permitted → ∀ x : Nat × Source, s.overBody = some x → x.1 = s.permitted →
      s.supRecord.source = x.2 ∧ s.supRecord.target = none ∧ s.supRecord.aEff = none) ∧
    (s.modeCap.1 ≠ s.permitted → s.overBody.map Prod.fst ≠ some s.permitted →
      ∃ (pre post : List Target) (x : Target), s.targets = pre ++ x :: post ∧ x.curve = s.permitted ∧
        (∀ y ∈ pre, y.curve = s.permitted → x.distance < y.distance) ∧
        (∀ y ∈ post, y.curve = s.permitted → x.distance ≤ y.distance) ∧
        s.supRecord.source = x.source ∧ s.supRecord.target = some x.near ∧ s.supRecord.aEff = x.aEff)

/-- R83, R84: where the distance does not exceed the build-up distance the curve is the target's own speed; else, with the product of
R83 above 4,000,000 it is 2,000, and otherwise the largest whole number whose square does not exceed v_target squared plus the
product. -/
def Obligations.BrakingCurveIsTheIntegerRoot : Prop :=
  (∀ v a d b : Nat, d ≤ b → brakingCurve v a d b = v) ∧
  (∀ v a d b p : Nat, b < d → p = 2 * a * (d - b) →
    (4000000 < p → brakingCurve v a d b = 2000) ∧
    (p ≤ 4000000 → brakingCurve v a d b * brakingCurve v a d b ≤ v * v + p ∧
      v * v + p < (brakingCurve v a d b + 1) * (brakingCurve v a d b + 1)))

/-- The supervision states. `supNext` is the table of R90 with R91 for a state held other than TRIP: each indicated state is taken, but
that INTERVENE is left only for CLEAR or TRIP; above v_perm + I the state is TRIP with cause OVERSPEED, and INTERVENE with the pinion
ENGAGED and EB UNAVAILABLE is TRIP with cause EB_LOST_ON_RACK. TRIP is never left by a recomputation. A command that brings one of the
events of R76, a change of the chain, the selected direction, a restriction, the overflow record, the closure set, the mode, EB
availability or the link, leaves v_perm, the supervision record, the supervision state, the trip record and the causes TRIP, INTERVENE and
ADVISE as a recomputation gives them from the state held (R76, R87, R88, R90 to R95); a command that brings several of these events, as a
frame that first makes the link UP does, is not spoken of. -/
def Obligations.SupervisionStateMoves : Prop :=
  (∀ (held : SupState) (vMeas vPerm w i : Nat) (noEb : Bool),
    (held = .trip → (supNext held vMeas vPerm w i noEb).1 = .trip) ∧
    (held ≠ .trip →
      (vPerm + i < vMeas → supNext held vMeas vPerm w i noEb = (.trip, some .overspeed)) ∧
      (vPerm < vMeas → vMeas ≤ vPerm + i →
        supNext held vMeas vPerm w i noEb = if noEb then (.trip, some .ebLostOnRack) else (.intervene, none)) ∧
      (vMeas + w ≤ vPerm → supNext held vMeas vPerm w i noEb = (.clear, none)) ∧
      (vMeas ≤ vPerm → vPerm < vMeas + w → held ≠ .intervene →
        supNext held vMeas vPerm w i noEb = (.advise, none)) ∧
      (vMeas ≤ vPerm → vPerm < vMeas + w → held = .intervene →
        supNext held vMeas vPerm w i noEb = if noEb then (.trip, some .ebLostOnRack) else (.intervene, none)))) ∧
  ∀ (c : Instr) (s t : State), exec c s = .next t → s.recomputedOnce c t → Supervises s t

/-- R48, R92 to R94, R102, R112, R115, R138: a wheel pulse that runs a car DISENGAGED, or SEEKING without an ENGAGE_FAULT by the same
pulse, back to the rollback limit, not reported before, trips it. The trip record holds ROLLBACK and the values the SSU held; TRIP is
latched; the EB is asked at 100%; the drive request is OFF, and permission and traction are withheld; the WB is asked at FULL, and no
leaf is left RELEASED. A test step running in motion is aborted with ABORT_TRIP (R122). -/
def Obligations.RollbackTripsTheCar : Prop :=
  ∀ (d : Direction) (s : State) (dist : Nat), dist = s.lrs.settings.wheelCirc / s.cfg.wheelPulses →
    (s.pou.engagement = .disengaged ∨ ∃ r : Seek, s.pou.engagement = .seeking r ∧
      (r.kind ≠ .onRack ∨ r.fault = true ∨ r.wheelDist + dist < 20000)) → d ≠ s.aut.selected →
    s.ctl.mode ≠ .start → s.ctl.mode ≠ .ready → s.ssu.state ≠ .trip → s.pou.rollbackReported = false →
    s.cfg.rollbackLimit * 100 ≤ min (s.pou.rollback + dist) 6553500 →
    ∃ t : State, exec (.wheelPulse d) s = .next t ∧ t.ssu.state = .trip ∧
      t.ssu.trip = some { first := .rollback, cHigh := s.pou.last.cHigh, vMeas := s.pou.last.vMeas,
                          vPerm := s.ssu.vPerm, set := 0b0000010#7 } ∧
      t.pou.rollbackReported = true ∧ t.cmp.causes.getLsbD 0 = true ∧ t.bcu.ebDemand = true ∧
      t.bcu.driveReq = false ∧ t.bcu.permission = false ∧ t.bcu.traction = false ∧ t.bcu.wbDemand = .full ∧
      (∀ l : Leaf, (t.dcu.leaf l).state ≠ .released) ∧
      (∀ n : Nat, s.pou.standstill = false → s.bcu.test.running = some n → t.bcu.test = .failed ∧
        t.bcu.testRec = some { step := n, outcome := .aborted, reason := .abortTrip }) ∧
      (s.vru.xcvr = .on → t.vru.burstCount = 4 ∧ t.vru.burstTimer = some 500 ∧ t.vru.reportTimer = none)

/-! ## Brakes -/

/-- What one evaluation of the BCU leaves, whatever it found (R100): release permission is held exactly while the seven conditions of R110
hold; the car drives, with the traction line active, exactly while permission is held, the drive request is ON and no test step runs
(R112); the EB demand is that of R102; the WB demand is the highest level asked for, HOLD by holding, SERVICE by INTERVENE while not
ENGAGED, HOLD or FULL by TRIP and by a running test step, and OFF while none asks, as while the car drives (R103, R114, R115); it is
CONFIRMED exactly while the pressure lies within 10 points of its level (R104). Holding is commanded at standstill with permission
withheld or the drive request OFF, and stays so until the car begins to drive (R108); it is confirmed by R109. The band demands are set to
APPLY where holding becomes commanded and in TRIP where the bands are needed (R106, R115), to RELEASE where the car begins to drive
(R112), and stand at every other time (R106). Holding that was confirmed and no longer is returns each RELEASED leaf to LOCKED, with its
count and its hold-open mark clear; a leaf in any other state carries on (R138). That the pressure is compared at each evaluation is the
model's choice of log 25, and the passes an evaluation makes are that of log 43. -/
def Obligations.EvaluationSetsTheOutputs : Prop :=
  ∀ s : State, ∃ t : State, bcuEval s = t ∧
    (t.bcu.permission = true ↔ (t.ctl.mode = .service ∨ t.ctl.mode = .depot) ∧
      (t.bcu.test = .passed ∨ t.bcu.test = .passedDegraded) ∧ t.dcu.secure = true ∧
      (t.ssu.state = .clear ∨ t.ssu.state = .advise) ∧ 0 < t.ssu.vPerm ∧ t.bcu.wbFault = false ∧
      ((t.bcu.pb1.state = .fault ∨ t.bcu.pb2.state = .fault) → t.engaged = false ∧ t.touchesRack = false)) ∧
    (t.bcu.traction = true ↔ t.bcu.permission = true ∧ t.bcu.driveReq = true ∧ t.bcu.test.running = none) ∧
    (t.bcu.ebDemand = true ↔ t.ssu.state = .trip ∨
      (t.ssu.state = .intervene ∧ (t.engaged = true ∨ t.bcu.ebAvail = true))) ∧
    (t.bcu.follow = .confirmed ↔ (match t.bcu.wbDemand with
      | .off => t.inp.pressure ≤ 10
      | .hold => 30 ≤ t.inp.pressure ∧ t.inp.pressure ≤ 50
      | .service => 60 ≤ t.inp.pressure ∧ t.inp.pressure ≤ 80
      | .full => 90 ≤ t.inp.pressure ∧ t.inp.pressure ≤ 100)) ∧
    (t.ssu.state = .trip → t.bcu.wbDemand = (if t.engaged then
      (if t.bcu.test = .running4 ∧ t.bcu.step4Hold = false then .full else .hold) else .full)) ∧
    (t.asksWheelBrake t.bcu.wbDemand ∨ t.bcu.wbDemand = .off ∧ ∀ x : WbLevel, ¬ t.asksWheelBrake x) ∧
    (∀ x : WbLevel, t.asksWheelBrake x → x.rank ≤ t.bcu.wbDemand.rank) ∧
    (t.ssu.state ≠ .trip → t.bcu.test.running = none → t.bcu.wbDemand =
      if t.ssu.state = .intervene ∧ t.engaged = false then .service else if t.bcu.holdCmd = true then .hold else .off) ∧
    (t.bcu.traction = true → t.bcu.holdCmd = false → t.bcu.wbDemand = .off) ∧
    (t.pou.standstill = true → t.bcu.permission = false ∨ t.bcu.driveReq = false → t.bcu.holdCmd = true) ∧
    (s.bcu.holdCmd = false → t.bcu.holdCmd = true → t.pou.standstill = true ∧ t.bcu.driveReq = false) ∧
    (s.bcu.holdCmd = true → s.summaryTrue → t.bcu.traction = false → t.bcu.holdCmd = true) ∧
    (t.bcu.holdConf = true ↔ t.bcu.wbDemand ≠ .off ∧ t.bcu.follow = .confirmed ∧
      (t.engaged = true ∨ t.touchesRack = true → t.bcu.pb1.state = .applied ∧ t.bcu.pb2.state = .applied)) ∧
    (s.bcu.holdCmd = false → t.bcu.holdCmd = true → ∀ p : Band, (t.bcu.band p).demand = .apply) ∧
    (t.ssu.state = .trip → t.engaged = true ∨ t.touchesRack = true → ∀ p : Band, (t.bcu.band p).demand = .apply) ∧
    (s.bcu.traction = false → t.bcu.traction = true → t.bcu.holdCmd = false ∧
      ∀ p : Band, (t.bcu.band p).demand = .release) ∧
    (s.bcu.test.running = none → s.summaryTrue → s.guarded → t.ssu.state ≠ .trip → t.bcu.holdCmd = s.bcu.holdCmd →
      t.bcu.traction = s.bcu.traction → ∀ p : Band, (t.bcu.band p).demand = (s.bcu.band p).demand) ∧
    (∀ l : Leaf, (s.dcu.leaf l).state ≠ .released → t.dcu.leaf l = s.dcu.leaf l) ∧
    (∀ l : Leaf, (s.dcu.leaf l).state = .released →
      (s.bcu.holdConf = true → t.bcu.holdConf = false → (t.dcu.leaf l).state = .locked ∧ (t.dcu.leaf l).attempts = 0 ∧
        (t.dcu.leaf l).holdOpen = false) ∧
      (t.dcu.leaf l = s.dcu.leaf l ∨ (t.dcu.leaf l).state = .locked))

/-- EB_READY_CHANGE once the filters have settled (R91, R101, R121, R122): EB is AVAILABLE exactly while the line is present and the
degraded mark is clear, and its loss latches BRAKE_FAULT; in INTERVENE with the pinion ENGAGED, where the v_perm so lowered does not
release the car to CLEAR, it trips the car with cause EB_LOST_ON_RACK, and a test step then running is aborted with ABORT_TRIP (R91,
R122); while step 5 runs, the loss ends it PASSED_DEGRADED with the mark set. -/
def Obligations.EbReadyMovesAvailability : Prop :=
  ∀ (present : Bool) (s : State), s.inp.settling = none → ∃ t : State, exec (.ebReadyChange present) s = .next t ∧
    t.inp.levels.ebReady = present ∧
    (s.bcu.test ≠ .running5 ∨ present = true →
      (t.bcu.ebAvail = true ↔ present = true ∧ s.bcu.ebDegraded = false) ∧ t.bcu.ebDegraded = s.bcu.ebDegraded ∧
      (s.bcu.ebAvail = true → t.bcu.ebAvail = false → t.cmp.causes.getLsbD 10 = true)) ∧
    (s.bcu.test ≠ .running5 → present = false → s.bcu.ebAvail = true → s.ssu.state = .intervene →
      s.pou.last.engagement = .engaged → t.ssu.vPerm < s.pou.last.vMeas + s.cfg.warnMargin →
      s.pou.last.vMeas ≤ t.ssu.vPerm + s.cfg.intervMargin →
      t.ssu.state = .trip ∧ t.cmp.causes.getLsbD 0 = true ∧ t.bcu.driveReq = false ∧
      t.ssu.trip = some { first := .ebLostOnRack, cHigh := s.pou.last.cHigh, vMeas := s.pou.last.vMeas,
                          vPerm := t.ssu.vPerm, set := 0b1000000#7 } ∧
      ∀ n : Nat, s.bcu.test.running = some n → t.bcu.test = .failed ∧ t.cmp.causes.getLsbD 11 = true ∧
        t.bcu.testRec = some { step := n, outcome := .aborted, reason := .abortTrip } ∧
        ∀ p : Band, cycledBand n = some p → (t.bcu.band p).demand = .apply) ∧
    (s.bcu.test = .running5 → present = false →
      t.bcu.ebAvail = false ∧ t.bcu.ebDegraded = true ∧ t.bcu.test = .passedDegraded ∧
      t.bcu.testRec = some { step := 5, outcome := .degraded, reason := .ebAbsent } ∧ t.cmp.causes.getLsbD 11 = true)

/-- The band brakes (R105, R107). BAND_SWITCH_CHANGE: a RELEASED brake no longer shown released, or an APPLIED one no longer shown
applied, enters FAULT; an APPLYING one with demand APPLY and the drive request OFF that is shown applied is APPLIED with its timer
stopped; one in FAULT stays there while no test step runs. RELEASE_TIMER_EXPIRY and APPLY_TIMER_EXPIRY: a brake still RELEASING, or
APPLYING, on its running timer enters FAULT. A fault latches BRAKE_FAULT; with no test step running the test state becomes NOT_DONE and
the test record stands, with one running it becomes FAILED and TEST_DONE is latched; moving on engaged rack the car is in TRIP. A
RELEASING brake with demand RELEASE that is shown released is RELEASED, also at the start of driving, at standstill with permission held
and the drive request ON (R112); in the step that cycles it its demand then becomes APPLY, and its return to APPLIED passes the step
(R119). The record of a step that fails names the cycled brake's timer, or the other brake by HOLD_LOST (R119, R120). -/
def Obligations.BandBrakesMoveAndFault : Prop :=
  (∀ (p : Band) (w : BandSwitch) (made : Bool) (s : State) (l : BandLevels),
    l = setBandSwitch w made (bandLevels s.inp.levels p) →
    ∃ t : State, exec (.bandSwitchChange p w made) s = .next t ∧ bandLevels t.inp.levels p = l ∧
      bandLevels t.inp.levels (otherBand p) = bandLevels s.inp.levels (otherBand p) ∧
      ((s.bcu.band p).state = .released ∧ shownReleased l = false ∨
          (s.bcu.band p).state = .applied ∧ shownApplied l = false →
        (t.bcu.band p).state = .fault ∧ (t.bcu.band p).timer = none ∧ t.cmp.causes.getLsbD 10 = true ∧
        (s.bcu.test.running = none → t.bcu.test = .notDone) ∧
        (s.bcu.test.running ≠ none → t.bcu.test = .failed) ∧
        (s.pou.standstill = false → s.engaged = true → t.ssu.state = .trip)) ∧
      ((s.bcu.band p).state = .applying → (s.bcu.band p).demand = .apply → s.bcu.driveReq = false →
        shownApplied l = true → (t.bcu.band p).state = .applied ∧ (t.bcu.band p).timer = none) ∧
      ((s.bcu.band p).state = .fault → s.bcu.test.running = none → (t.bcu.band p).state = .fault) ∧
      ((s.bcu.band p).state = .releasing → (s.bcu.band p).demand = .release → shownReleased l = true →
        s.bcu.test.running = none → s.bcu.holdCmd = true ∨ s.pou.standstill = false → s.ssu.state ≠ .trip →
        s.summaryTrue → (t.bcu.band p).state = .released ∧ (t.bcu.band p).timer = none) ∧
      ((s.bcu.band p).state = .releasing → (s.bcu.band p).demand = .release → shownReleased l = true →
        s.pou.standstill = true → s.bcu.holdCmd = false → s.bcu.driveReq = true → s.bcu.failing s.readings = [] →
        s.summaryTrue → t.bcu.band p = { state := .released, timer := none, demand := .release } ∧
          t.bcu.traction = true ∧ t.bcu.holdCmd = false) ∧
      (∀ n : Nat, (s.bcu.band p).state = .applied → shownApplied l = false → s.bcu.test.running = some n →
        n = 2 ∨ n = 3 ∨ n = 4 → cycledBand n ≠ some p →
        t.bcu.testRec = some { step := n, outcome := .failed, reason := .holdLost (bandChannel p) }) ∧
      (∀ n : Nat, s.bcu.test.running = some n → cycledBand n = some p → (s.bcu.band (otherBand p)).state = .applied →
        (s.bcu.band (otherBand p)).demand = .apply → 35 ≤ s.inp.pressure → s.bcu.holdCmd = true →
        s.ssu.state ≠ .trip →
        ((s.bcu.band p).state = .releasing → (s.bcu.band p).demand = .release → shownReleased l = true →
          t.bcu.test = s.bcu.test ∧ t.bcu.band p = { state := .applying, timer := some 800, demand := .apply }) ∧
        ((s.bcu.band p).state = .applying → (s.bcu.band p).demand = .apply → shownApplied l = true →
          (t.bcu.band p).state = .applied ∧ t.bcu.test = (if n = 2 then .step2Passed else .step3Passed) ∧
          t.bcu.testRec = some { step := n, outcome := .passed, reason := .none } ∧
          t.cmp.causes.getLsbD 11 = true))) ∧
  (∀ (p : Band) (s : State) (c : Instr),
    (c = .releaseTimerExpiry p ∧ (s.bcu.band p).state = .releasing ∨
      c = .applyTimerExpiry p ∧ (s.bcu.band p).state = .applying) → (s.bcu.band p).timer ≠ none →
    ∃ t : State, exec c s = .next t ∧ (t.bcu.band p).state = .fault ∧ (t.bcu.band p).timer = none ∧
      t.cmp.causes.getLsbD 10 = true ∧
      (s.bcu.test.running = none → t.bcu.test = .notDone ∧ t.bcu.testRec = s.bcu.testRec) ∧
      (s.bcu.test.running ≠ none → t.bcu.test = .failed ∧ t.cmp.causes.getLsbD 11 = true) ∧
      (∀ n : Nat, s.bcu.test.running = some n → cycledBand n = some p → (t.bcu.band p).demand = .apply ∧
        t.bcu.testRec = some { step := n, outcome := .failed, reason :=
          if c = .releaseTimerExpiry p then .releaseTimeout (bandChannel p) else .applyTimeout (bandChannel p) }) ∧
      t.bcu.permission = false ∧ (s.pou.standstill = false → s.engaged = true → t.ssu.state = .trip))

/-- WB_PRESSURE_CHANGE and FOLLOW_TIMER_EXPIRY (R104): the demand is CONFIRMED exactly while the pressure is in band; the follow timer
running out while FOLLOWING sets the WB fault and latches BRAKE_FAULT, and so withholds release permission (R110). In steps 2 and 3 a
pressure below 35% fails the step with HOLD_LOST and sets the WB fault (R119); in step 4 FULL confirmed asks HOLD, and HOLD confirmed
passes the step and clears the WB fault (R120). A pressure out of band of a HOLD that confirmed holding ends that confirmation, and
returns each RELEASED leaf to LOCKED, where a leaf in any other state carries on (R109, R138). The model's choice is that the pressure is
compared at each evaluation (log 25), and that BRAKE_FAULT is latched at every end of the follow timer, also where the WB fault stands
already (log 41). -/
def Obligations.WheelBrakeIsFollowed : Prop :=
  (∀ (n : Nat) (s : State), ∃ t : State, exec (.wbPressureChange n) s = .next t ∧ t.inp.pressure = n ∧
    (t.bcu.follow = .confirmed ↔ t.bcu.wbDemand.inBand n = true) ∧
    (t.bcu.follow = .confirmed → t.bcu.followTimer = none ∨ s.bcu.follow = .confirmed) ∧
    (s.bcu.test.running = none → t.bcu.wbFault = s.bcu.wbFault) ∧
    (s.bcu.holdConf = true → s.bcu.holdCmd = true → s.bcu.driveReq = false → s.bcu.test.running = none →
      s.ssu.state = .clear ∨ s.ssu.state = .advise → n < 30 ∨ 50 < n →
      t.bcu.holdConf = false ∧ t.bcu.holdCmd = true ∧ ∀ l : Leaf,
        ((s.dcu.leaf l).state = .released → (t.dcu.leaf l).state = .locked) ∧
        ((s.dcu.leaf l).state ≠ .released → t.dcu.leaf l = s.dcu.leaf l))) ∧
  (∀ (n k : Nat) (p : Band) (s : State), s.bcu.test.running = some k → cycledBand k = some p →
    (s.bcu.band (otherBand p)).state = .applied → (s.bcu.band (otherBand p)).demand = .apply → n < 35 →
    ∃ t : State, exec (.wbPressureChange n) s = .next t ∧ t.bcu.test = .failed ∧ t.bcu.wbFault = true ∧
      t.bcu.testRec = some { step := k, outcome := .failed, reason := .holdLost .wb } ∧
      (t.bcu.band p).demand = .apply ∧ t.cmp.causes.getLsbD 10 = true ∧ t.cmp.causes.getLsbD 11 = true) ∧
  (∀ (n : Nat) (s : State), s.bcu.test = .running4 →
    (∀ p : Band, (s.bcu.band p).state = .applied ∧ (s.bcu.band p).demand = .apply) → s.bcu.holdCmd = true →
    s.ssu.state = .clear ∨ s.ssu.state = .advise →
    (s.bcu.step4Hold = false → 90 ≤ n → n ≤ 100 → ∃ t : State, exec (.wbPressureChange n) s = .next t ∧
      t.bcu.test = .running4 ∧ t.bcu.wbDemand = .hold ∧ t.bcu.follow = .following ∧ t.bcu.followTimer = some 1500) ∧
    (s.bcu.step4Hold = true → 30 ≤ n → n ≤ 50 → ∃ t : State, exec (.wbPressureChange n) s = .next t ∧
      t.bcu.test = .step4Passed ∧ t.bcu.wbFault = false ∧ t.bcu.wbDemand = .hold ∧
      t.bcu.testRec = some { step := 4, outcome := .passed, reason := .none } ∧ t.cmp.causes.getLsbD 11 = true)) ∧
  (∀ s : State, s.bcu.follow = .following → s.bcu.followTimer ≠ none → s.bcu.test ≠ .running4 →
    ∃ t : State, exec .followTimerExpiry s = .next t ∧ t.bcu.wbFault = true ∧ t.cmp.causes.getLsbD 10 = true ∧
      t.bcu.permission = false ∧ t.bcu.traction = false) ∧
  (∀ s : State, s.bcu.follow = .following → s.bcu.followTimer ≠ none → s.bcu.test = .running4 →
    ∃ t : State, exec .followTimerExpiry s = .next t ∧ t.bcu.wbFault = true ∧ t.bcu.test = .failed ∧
      t.bcu.testRec = some { step := 4, outcome := .failed, reason := .wbPressure } ∧
      t.cmp.causes.getLsbD 10 = true ∧ t.cmp.causes.getLsbD 11 = true)

/-- STEP1_TIMEOUT and STEP5_WATCH_END (R118, R121): at 1.5 s step 1 fails on the first band brake that does not hold, else on a WB below
35%, whose fault is then set, and passes where all hold; at 1 s step 5 with EB_READY present passes the test and clears the degraded
mark, and with it absent ends PASSED_DEGRADED with the mark set. Each end latches TEST_DONE. Any running step is aborted, the test
FAILED, with ABORT_MOTION by the pulse that ends standstill, with ABORT_DOORS where a LOCKED leaf loses its closed switch, and with
ABORT_MODE where WAKING ends; a band brake it cycles then has its demand at APPLY (R122). A PARK, the one request by which the mode
leaves SERVICE or DEPOT (R190), aborts a running step in the same way, TEST_DONE latched and its demands withdrawn, and then sets the
test NOT_DONE and clears the record (R122, R198). -/
def Obligations.TestStepsEndOnTheirTimers : Prop :=
  (∀ s : State, s.bcu.test = .running1 → s.bcu.stepTimer ≠ none →
    (∀ p : Band, s.bandNotHolding = some p →
      ∃ t : State, exec .step1Timeout s = .next t ∧ t.bcu.test = .failed ∧
        t.bcu.testRec = some { step := 1, outcome := .failed, reason := .applyTimeout (bandChannel p) } ∧
        t.cmp.causes.getLsbD 11 = true) ∧
    (s.bandNotHolding = none → s.inp.pressure < 35 →
      ∃ t : State, exec .step1Timeout s = .next t ∧ t.bcu.test = .failed ∧ t.bcu.wbFault = true ∧
        t.bcu.testRec = some { step := 1, outcome := .failed, reason := .wbPressure } ∧
        t.cmp.causes.getLsbD 10 = true ∧ t.cmp.causes.getLsbD 11 = true) ∧
    (s.bandNotHolding = none → 35 ≤ s.inp.pressure →
      ∃ t : State, exec .step1Timeout s = .next t ∧ t.bcu.test = .step1Passed ∧ t.bcu.wbFault = s.bcu.wbFault ∧
        t.cmp.causes.getLsbD 11 = true)) ∧
  (∀ s : State, s.bcu.test = .running5 → s.bcu.stepTimer ≠ none → s.inp.levels.ebReady = true →
    ∃ t : State, exec .step5WatchEnd s = .next t ∧ t.bcu.test = .passed ∧ t.bcu.ebDegraded = false ∧
      t.bcu.testRec = some { step := 5, outcome := .passed, reason := .none } ∧ t.cmp.causes.getLsbD 11 = true) ∧
  (∀ s : State, s.bcu.test = .running5 → s.bcu.stepTimer ≠ none → s.inp.levels.ebReady = false →
    ∃ t : State, exec .step5WatchEnd s = .next t ∧ t.bcu.test = .passedDegraded ∧ t.bcu.ebDegraded = true ∧
      t.bcu.testRec = some { step := 5, outcome := .degraded, reason := .ebAbsent } ∧ t.cmp.causes.getLsbD 11 = true) ∧
  (∀ (s : State) (c : Instr) (n : Nat) (reason : TestReason), s.bcu.test.running = some n →
    (((∃ d : Direction, c = .wheelPulse d) ∨ c = .pinionPulse) ∧ s.pou.standstill = true ∧ reason = .abortMotion ∨
      (∃ l : Leaf, c = .closedSwitchChange l false ∧ (s.dcu.leaf l).state = .locked) ∧ s.dcu.secure = true ∧
        reason = .abortDoors ∨
      c = .settleTimerExpiry ∧ s.ctl.mode = .waking ∧ s.ctl.settle ≠ none ∧ reason = .abortMode) →
    ∃ t : State, exec c s = .next t ∧ t.bcu.test = .failed ∧
      t.bcu.testRec = some { step := n, outcome := .aborted, reason := reason } ∧ t.cmp.causes.getLsbD 11 = true ∧
      ∀ p : Band, cycledBand n = some p → (t.bcu.band p).demand = .apply) ∧
  (∀ (s : State) (n : Nat), s.bcu.test.running = some n → s.servesRequests → s.ctl.mode = .service →
    s.pou.standstill = true → s.bcu.holdConf = true → s.dcu.secure = true →
    ∃ t : State, exec .park s = .next t ∧ Done t 0x42#8 [] ∧ t.ctl.mode = .parked ∧ t.bcu.test = .notDone ∧
      t.bcu.testRec = none ∧ t.bcu.stepTimer = none ∧ t.bcu.step4Hold = false ∧ t.cmp.causes.getLsbD 11 = true ∧
      ∀ p : Band, cycledBand n = some p → (t.bcu.band p).demand = .apply)

/-- DRIVE_REQUEST (R111, R112): ON is DONE only where all seven conditions of R110 hold and no test step runs, and the car then drives:
traction active, both bands asked to RELEASE, holding no longer commanded; with conditions failing it is refused with CONDITIONS and their
numbers, while a test step runs with BUSY, and in READY and PARKED with MODE; OFF is always taken and ends the drive. ON while the car
drives is DONE and leaves it driving. The model's choice is that another byte is refused with RANGE before the MODE refusal (log 38), and
that the failing conditions are listed with their count first (log 14). -/
def Obligations.DriveRequestIsGuarded : Prop :=
  ∀ s : State, s.servesRequests →
    (∃ t : State, exec (.driveRequest 0#8) s = .next t ∧ Done t 0x26#8 [] ∧ t.bcu.driveReq = false ∧
      t.bcu.traction = false) ∧
    (s.ctl.mode = .ready ∨ s.ctl.mode = .parked → ∃ t : State, exec (.driveRequest 1#8) s = .next t ∧
      Keeps [.port, .transmitter] s t ∧ Answered t 0x26#8 .refused .mode []) ∧
    (s.ctl.mode = .service ∨ s.ctl.mode = .depot → s.bcu.test.running ≠ none →
      ∃ t : State, exec (.driveRequest 1#8) s = .next t ∧ Keeps [.port, .transmitter] s t ∧
        Answered t 0x26#8 .busy .busy []) ∧
    (s.ctl.mode = .service ∨ s.ctl.mode = .depot → s.bcu.test.running = none → s.bcu.failing s.readings = [] →
      s.bcu.traction = false → s.summaryTrue →
      ∃ t : State, exec (.driveRequest 1#8) s = .next t ∧ Done t 0x26#8 [] ∧ t.bcu.driveReq = true ∧
        t.bcu.traction = true ∧ t.bcu.holdCmd = false ∧ t.bcu.pb1.demand = .release ∧ t.bcu.pb2.demand = .release) ∧
    (s.ctl.mode = .service ∨ s.ctl.mode = .depot → s.bcu.test.running = none → s.bcu.failing s.readings = [] →
      s.bcu.traction = true → s.summaryTrue →
      ∃ t : State, exec (.driveRequest 1#8) s = .next t ∧ Done t 0x26#8 [] ∧ t.bcu.driveReq = true ∧
        t.bcu.traction = true ∧ t.bcu.holdCmd = s.bcu.holdCmd ∧ t.bcu.pb1.demand = s.bcu.pb1.demand ∧
        t.bcu.pb2.demand = s.bcu.pb2.demand ∧ ∀ l : Leaf, t.dcu.leaf l = s.dcu.leaf l) ∧
    (s.ctl.mode = .service ∨ s.ctl.mode = .depot → s.bcu.test.running = none → s.bcu.failing s.readings ≠ [] →
      ∃ t : State, exec (.driveRequest 1#8) s = .next t ∧ Keeps [.port, .transmitter] s t ∧
        Answered t 0x26#8 .refused .conditions (numberItems (s.bcu.failing s.readings))) ∧
    (∀ b : Byte, b ≠ 0#8 → b ≠ 1#8 → ∃ t : State, exec (.driveRequest b) s = .next t ∧
      Keeps [.port, .transmitter] s t ∧ Answered t 0x26#8 .refused .range [])

/-- BRAKE_TEST (R117 to R121): the checks in their order, BUSY, SEQUENCE, CONDITIONS; a step that is taken is answered DONE with its
number, and the test has left the state it was in: the step runs, with the test record as it was, or it has ended at once, with its own
record and TEST_DONE. Step 1 asks APPLY of both bands and at least HOLD of the WB for 1.5 s, and passes at once where all hold. Steps 2
and 3 ask RELEASE of the band they cycle, also from FAULT, on its 1.2 s timer, and fail at once where the other band or the WB does not
hold. Step 4 asks FULL of the WB. Step 5 watches EB_READY for 1 s, and ends DEGRADED at once where it is absent. That the answer carries
the step number in two bytes is the model's choice of log 14, and that the other band is named before the WB where neither holds that
of log 52. -/
def Obligations.BrakeTestTakesTheNextStep : Prop :=
  ∀ (n : Byte) (s : State), s.servesRequests →
    (s.bcu.test.running ≠ none → ∃ t : State, exec (.brakeTest n) s = .next t ∧ Keeps [.port, .transmitter] s t ∧
      Answered t 0x27#8 .busy .busy []) ∧
    (s.bcu.test.running = none → n.toNat ≠ s.bcu.test.nextStep → ∃ t : State, exec (.brakeTest n) s = .next t ∧
      Keeps [.port, .transmitter] s t ∧ Answered t 0x27#8 .refused .sequence []) ∧
    (s.bcu.test.running = none → n.toNat = s.bcu.test.nextStep → s.testAllowed = false →
      ∃ t : State, exec (.brakeTest n) s = .next t ∧ Keeps [.port, .transmitter] s t ∧
        Answered t 0x27#8 .refused .conditions []) ∧
    (s.bcu.test.running = none → n.toNat = s.bcu.test.nextStep → s.testAllowed = true →
      ∃ t : State, exec (.brakeTest n) s = .next t ∧ Done t 0x27#8 [0#8, n] ∧ t.bcu.test ≠ s.bcu.test ∧
        (t.bcu.test.running = some n.toNat ∧ t.bcu.testRec = s.bcu.testRec ∨
          t.bcu.test.running = none ∧ t.bcu.testRec.map TestRecord.step = some n.toNat ∧
            t.cmp.causes.getLsbD 11 = true) ∧
        (n = 1#8 → t.bcu.pb1.demand = .apply ∧ t.bcu.pb2.demand = .apply ∧ t.bcu.wbDemand ≠ .off ∧
          (t.bcu.test = .running1 ∧ t.bcu.stepTimer = some 1500 ∨ t.bcu.test = .step1Passed) ∧
          (s.bandNotHolding = none → 35 ≤ s.inp.pressure → t.bcu.test = .step1Passed ∧
            t.bcu.testRec = some { step := 1, outcome := .passed, reason := .none })) ∧
        (∀ p : Band, cycledBand n.toNat = some p → (s.bcu.band (otherBand p)).demand = .apply → s.bcu.holdCmd = true →
          ((s.bcu.band (otherBand p)).state = .applied → 35 ≤ s.inp.pressure →
            shownReleased (bandLevels s.inp.levels p) = false →
            (s.bcu.band p).state = .applied ∨ (s.bcu.band p).state = .fault →
            t.bcu.test.running = some n.toNat ∧
              t.bcu.band p = { state := .releasing, timer := some 1200, demand := .release } ∧
              (t.bcu.band (otherBand p)).demand = .apply) ∧
          ((s.bcu.band (otherBand p)).state = .applied → s.inp.pressure < 35 → t.bcu.test = .failed ∧
            t.bcu.wbFault = true ∧
            t.bcu.testRec = some { step := n.toNat, outcome := .failed, reason := .holdLost .wb }) ∧
          ((s.bcu.band (otherBand p)).state = .fault → shownApplied (bandLevels s.inp.levels (otherBand p)) = false →
            t.bcu.test = .failed ∧ t.bcu.testRec =
              some { step := n.toNat, outcome := .failed, reason := .holdLost (bandChannel (otherBand p)) })) ∧
        (n = 4#8 → (∀ p : Band, (s.bcu.band p).state = .applied ∧ (s.bcu.band p).demand = .apply) →
          s.bcu.wbDemand ≠ .full → s.inp.pressure < 90 → t.bcu.test = .running4 ∧ t.bcu.wbDemand = .full ∧
            t.bcu.follow = .following ∧ t.bcu.followTimer = some 1500) ∧
        (n = 5#8 → s.inp.levels.ebReady = true → t.bcu.test = .running5 ∧ t.bcu.stepTimer = some 1000) ∧
        (n = 5#8 → s.inp.levels.ebReady = false → t.bcu.test = .passedDegraded ∧ t.bcu.ebDegraded = true ∧
          t.bcu.testRec = some { step := 5, outcome := .degraded, reason := .ebAbsent }))

/-! ## Doors -/

/-- BUTTON_EDGE (R130, R136): pressed at a leaf of a side in PASSENGER mode with its closing-out mark clear, it sends a RELEASED leaf
OPENING on its 4 s timer, starts the dwell of an OPEN leaf with a dwell running anew, and returns a WARNING leaf to OPEN with a
full dwell; at a leaf OPEN without a dwell, held open, or in another state, on a side in CREW mode or closing out, and at its release
it moves no leaf. -/
def Obligations.ButtonOpensAReleasedLeaf : Prop :=
  (∀ (l : Leaf) (s : State) (x : SideRec), x = s.dcu.side (sideOfLeaf l) → x.mode = .passenger → x.closingOut = false →
    ∃ t : State, exec (.buttonEdge l true) s = .next t ∧ (leafLevels t.inp.levels l).button = true ∧
      ((s.dcu.leaf l).state = .released → (t.dcu.leaf l).state = .opening ∧ (t.dcu.leaf l).timer = some 4000) ∧
      ((s.dcu.leaf l).state = .opened ∧ (s.dcu.leaf l).timer ≠ none ∨ (s.dcu.leaf l).state = .warning →
        (t.dcu.leaf l).state = .opened ∧ (t.dcu.leaf l).timer = some (s.lrs.settings.openDwell * 1000)) ∧
      ((s.dcu.leaf l).state = .opened → (s.dcu.leaf l).timer = none → t.dcu.leaf l = s.dcu.leaf l) ∧
      ((s.dcu.leaf l).state ∈ [LeafState.opening, .closing, .reversing, .locking, .locked, .fault, .isolated] →
        (t.dcu.leaf l).state = (s.dcu.leaf l).state ∧ (t.dcu.leaf l).timer = (s.dcu.leaf l).timer)) ∧
  (∀ (l : Leaf) (pressed : Bool) (s : State) (x : SideRec), x = s.dcu.side (sideOfLeaf l) →
    x.mode = .crew ∨ x.closingOut = true ∨ pressed = false →
    ∃ t : State, exec (.buttonEdge l pressed) s = .next t ∧ (leafLevels t.inp.levels l).button = pressed ∧
      Keeps [.inp, .transmitter] s t)

/-- OPEN_END_SWITCH made while OPENING or REVERSING (R130, R131, R133): the leaf reaches OPEN, and the cases of R133 are taken in their
order. From REVERSING it waits where it is held open, and where its side is in CREW mode; closing out it goes WARNING (CLOSING where
the warn lead is 0), else it dwells in PASSENGER mode and waits in CREW mode. That the wait for a DOOR_CLOSE in CREW mode is over as it
begins where one has reached the leaf CLOSING or REVERSING is the model's choice of log 39 between R133 and R137, R140. In another
state, and opening again, the switch moves no leaf. -/
def Obligations.OpenEndSwitchReachesOpen : Prop :=
  ∀ (l : Leaf) (s : State) (x : SideRec) (r : LeafRec), x = s.dcu.side (sideOfLeaf l) → r = s.dcu.leaf l →
    (r.state = .opening ∨ r.state = .reversing →
      ∃ t : State, exec (.openEndSwitch l true) s = .next t ∧ (leafLevels t.inp.levels l).openEnd = true ∧
        (t.dcu.leaf l).closeAsked = false ∧
        (if r.state = .reversing ∧ (r.holdOpen = true ∨ x.mode = .crew ∧ r.closeAsked = false) then
          (t.dcu.leaf l).state = .opened ∧ (t.dcu.leaf l).timer = none
        else if x.closingOut = true then
          if s.lrs.settings.warnLead = 0 then (t.dcu.leaf l).state = .closing ∧ (t.dcu.leaf l).timer = some 5000
          else (t.dcu.leaf l).state = .warning ∧ (t.dcu.leaf l).timer = some (s.lrs.settings.warnLead * 1000)
        else if x.mode = .passenger then
          (t.dcu.leaf l).state = .opened ∧ (t.dcu.leaf l).timer = some (s.lrs.settings.openDwell * 1000)
        else (t.dcu.leaf l).state = .opened ∧ (t.dcu.leaf l).timer = none)) ∧
    (∀ made : Bool, r.state ≠ .opening ∧ r.state ≠ .reversing ∨ made = false →
      ∃ t : State, exec (.openEndSwitch l made) s = .next t ∧ (leafLevels t.inp.levels l).openEnd = made ∧
        Keeps [.inp, .transmitter] s t)

/-- CLOSED_SWITCH_CHANGE and LOCK_SWITCH_CHANGE (R132, R134, R141): made, they carry a CLOSING leaf to LOCKING on its 1.5 s timer and a
LOCKING leaf to LOCKED with its attempt count and hold-open mark cleared and its obstruction record kept; lost, they take a watched leaf
to FAULT with DOOR_EVENT, and to TRIP where the car moves. An ISOLATED leaf's lock switch is watched once it has been seen made. The
model's choice is that a leaf entering LOCKING waits for its next LOCK_SWITCH_CHANGE, and a leaf entering CLOSING for its next
CLOSED_SWITCH_CHANGE, whatever level the switch has then, and that a command which repeats the level that stands acts as that level does
(log 6). -/
def Obligations.ClosedAndLockSwitches : Prop :=
  (∀ (l : Leaf) (s : State), (s.dcu.leaf l).state = .closing →
    ∃ t : State, exec (.closedSwitchChange l true) s = .next t ∧ (t.dcu.leaf l).state = .locking ∧
      (t.dcu.leaf l).timer = some 1500 ∧ (t.dcu.leaf l).candidate = none) ∧
  (∀ (l : Leaf) (s : State), (s.dcu.leaf l).state = .locking →
    ∃ t : State, exec (.lockSwitchChange l true) s = .next t ∧ (t.dcu.leaf l).state = .locked ∧
      (t.dcu.leaf l).timer = none ∧ (t.dcu.leaf l).attempts = 0 ∧ (t.dcu.leaf l).holdOpen = false ∧
      (t.dcu.leaf l).obstruction = (s.dcu.leaf l).obstruction) ∧
  (∀ (l : Leaf) (s : State), (s.dcu.leaf l).state ∈ [LeafState.locked, .isolated, .released, .locking] →
    ∃ t : State, exec (.closedSwitchChange l false) s = .next t ∧ (t.dcu.leaf l).state = .fault ∧
      (t.dcu.leaf l).timer = none ∧ t.cmp.causes.getLsbD 8 = true ∧ t.dcu.secure = false ∧
      ((s.dcu.leaf l).state = .locked ∨ (s.dcu.leaf l).state = .isolated → s.pou.standstill = false →
        t.ssu.state = .trip) ∧
      (s.pou.standstill = true → t.ssu = s.ssu)) ∧
  (∀ (l : Leaf) (s : State),
    (s.dcu.leaf l).state = .locked ∨ (s.dcu.leaf l).state = .isolated ∧ (s.dcu.leaf l).lockSeen = true →
    ∃ t : State, exec (.lockSwitchChange l false) s = .next t ∧ (t.dcu.leaf l).state = .fault ∧
      t.cmp.causes.getLsbD 8 = true ∧ t.dcu.secure = false ∧ (s.pou.standstill = false → t.ssu.state = .trip) ∧
      (s.pou.standstill = true → t.ssu = s.ssu)) ∧
  (∀ (l : Leaf) (s : State), (s.dcu.leaf l).state = .isolated →
    ∃ t : State, exec (.lockSwitchChange l true) s = .next t ∧ (t.dcu.leaf l).state = .isolated ∧
      (t.dcu.leaf l).lockSeen = true)

/-- The leaf timers (R130, R132, R134): a leaf still OPENING or REVERSING, CLOSING, or LOCKING on its running timer enters FAULT: timer and
candidate stop, attempt count and hold-open mark are cleared, DOOR_EVENT is latched, the summary is NOT_SECURE and nothing is driven.
An OPEN leaf whose dwell runs out goes WARNING for the warn lead, straight to CLOSING where that is 0, and a WARNING leaf goes
CLOSING on its 5 s timer; a leaf OPEN without a dwell waits. -/
def Obligations.LeafTimersRunOut : Prop :=
  (∀ (l : Leaf) (s : State) (c : Instr), (s.dcu.leaf l).timer ≠ none →
    (c = .openStrokeTimeout l ∧ ((s.dcu.leaf l).state = .opening ∨ (s.dcu.leaf l).state = .reversing) ∨
      c = .closeStrokeTimeout l ∧ (s.dcu.leaf l).state = .closing ∨
      c = .lockTimeout l ∧ (s.dcu.leaf l).state = .locking) →
    ∃ t : State, exec c s = .next t ∧ (t.dcu.leaf l).state = .fault ∧ (t.dcu.leaf l).timer = none ∧
      (t.dcu.leaf l).candidate = none ∧ (t.dcu.leaf l).attempts = 0 ∧ (t.dcu.leaf l).holdOpen = false ∧
      (t.dcu.leaf l).obstruction = (s.dcu.leaf l).obstruction ∧ t.cmp.causes.getLsbD 8 = true ∧ t.dcu.secure = false ∧
      t.openDrive l = false ∧ t.closeDrive l = false) ∧
  (∀ (l : Leaf) (s : State), (s.dcu.leaf l).state = .opened → (s.dcu.leaf l).timer ≠ none →
    ∃ t : State, exec (.dwellEnd l) s = .next t ∧
      (if s.lrs.settings.warnLead = 0 then (t.dcu.leaf l).state = .closing ∧ (t.dcu.leaf l).timer = some 5000
      else (t.dcu.leaf l).state = .warning ∧ (t.dcu.leaf l).timer = some (s.lrs.settings.warnLead * 1000)) ∧
      (t.dcu.side (sideOfLeaf l)).warning = true) ∧
  (∀ (l : Leaf) (s : State), (s.dcu.leaf l).state = .warning → (s.dcu.leaf l).timer ≠ none →
    ∃ t : State, exec (.warnLeadEnd l) s = .next t ∧ (t.dcu.leaf l).state = .closing ∧
      (t.dcu.leaf l).timer = some 5000 ∧ t.closeDrive l = true ∧ (t.dcu.side (sideOfLeaf l)).warning = true) ∧
  (∀ (l : Leaf) (s : State), (s.dcu.leaf l).state = .opened → (s.dcu.leaf l).timer = none →
    ∃ t : State, exec (.dwellEnd l) s = .next t ∧ Keeps [.transmitter] s t)

/-- DOOR_SAMPLE and STALL_TIMEOUT (R144 to R146): a sample outside 50 .. 950 of the stroke is ignored, but for the position it brings as
an input, and outside CLOSING a sample is nothing; at T or more it starts a candidate; above P it is the new peak; at or below P - H,
with P above H, it confirms the obstruction, as a stall does at the last sample's position: the leaf reverses, its count and obstruction
record rise and DOOR_EVENT is latched, and where the count reaches the reopen attempts the leaf is marked held open and OBSTRUCTED is
latched. A leaf that stalls above 950 is not reversed. That where it stands is read from the last sample brought, taken or not, is the
model's choice of log 59. -/
def Obligations.ObstructionReversesTheLeaf : Prop :=
  (∀ (l : Leaf) (current stroke : Nat) (s : State), (s.dcu.leaf l).state = .closing →
    (stroke < 50 ∨ 950 < stroke → ∃ t : State, exec (.doorSample l current stroke) s = .next t ∧
      Keeps [.inp, .transmitter] s t) ∧
    (∃ t : State, exec (.doorSample l current stroke) s = .next t ∧
      t.inp = { s.inp with strokes := setLeafStroke l stroke s.inp.strokes }) ∧
    (50 ≤ stroke → stroke ≤ 950 → (s.dcu.leaf l).candidate = none → s.cfg.threshold ≤ current →
      ∃ t : State, exec (.doorSample l current stroke) s = .next t ∧ Keeps [.dcu, .inp, .transmitter] s t ∧
        (t.dcu.leaf l).state = .closing ∧ (t.dcu.leaf l).candidate =
          some { peak := current, peakPos := stroke, lastPos := stroke, stall := 200 }) ∧
    (∀ k : Candidate, 50 ≤ stroke → stroke ≤ 950 → (s.dcu.leaf l).candidate = some k → k.peak < current →
      s.cfg.threshold ≤ current →
      ∃ t : State, exec (.doorSample l current stroke) s = .next t ∧ Keeps [.dcu, .inp, .transmitter] s t ∧
        (t.dcu.leaf l).state = .closing ∧ ∃ m : Nat, (t.dcu.leaf l).candidate =
          some { peak := current, peakPos := stroke, lastPos := stroke, stall := m } ∧
          (stroke ≠ k.lastPos → m = 200) ∧ (stroke = k.lastPos → m = k.stall))) ∧
  (∀ (l : Leaf) (s : State) (c : Instr) (k : Candidate) (pos n : Nat), (s.dcu.leaf l).state = .closing →
    (s.dcu.leaf l).candidate = some k → n = (s.dcu.leaf l).attempts + 1 →
    ((∃ current : Nat, c = .doorSample l current pos ∧ 50 ≤ pos ∧ pos ≤ 950 ∧ s.cfg.hysteresis < k.peak ∧
        current ≤ k.peak - s.cfg.hysteresis) ∨ (c = .stallTimeout l ∧ pos = k.lastPos ∧
        leafStroke s.inp.strokes l ≤ 950)) →
    ∃ t : State, exec c s = .next t ∧ (t.dcu.leaf l).state = .reversing ∧ (t.dcu.leaf l).timer = some 4000 ∧
      (t.dcu.leaf l).candidate = none ∧ (t.dcu.leaf l).attempts = n ∧
      (s.cfg.reportPoint = .atPeak →
        (t.dcu.leaf l).obstruction = some { stroke := k.peakPos, peak := k.peak, attempts := n }) ∧
      (s.cfg.reportPoint = .atFall →
        (t.dcu.leaf l).obstruction = some { stroke := pos, peak := k.peak, attempts := n }) ∧
      t.cmp.causes.getLsbD 8 = true ∧
      (s.cfg.reopenAttempts ≤ n → (t.dcu.leaf l).holdOpen = true ∧ t.cmp.causes.getLsbD 9 = true) ∧
      (n < s.cfg.reopenAttempts → (t.dcu.leaf l).holdOpen = (s.dcu.leaf l).holdOpen)) ∧
  (∀ (l : Leaf) (s : State), 950 < leafStroke s.inp.strokes l → ∃ t : State, exec (.stallTimeout l) s = .next t ∧
    Keeps [.transmitter] s t) ∧
  (∀ (l : Leaf) (current stroke : Nat) (s : State), (s.dcu.leaf l).state ≠ .closing →
    ∃ t : State, exec (.doorSample l current stroke) s = .next t ∧ Keeps [.transmitter] s t)

/-- DOOR_RELEASE (R126 to R129): refused with MODE in READY and PARKED; in SERVICE and DEPOT with RANGE for a side or mode that is none,
with BUSY while a brake test step runs, and with CONDITIONS unless at standstill with holding confirmed, not in TRIP and, in SERVICE,
with the position KNOWN. It releases a side at standstill with holding confirmed and the brakes as their last evaluation left them: in
DEPOT every LOCKED leaf of the side is released and the release stop is none; in SERVICE with the position KNOWN the platform lookup
decides: NONE and CLOSED are refused, and a stop found releases each LOCKED leaf whose worst-case span lies wholly inside one of its
windows. A released leaf is RELEASED in PASSENGER mode and OPENING in CREW mode, and the response names it; every other leaf of the side
stands. A second release of a side still in its cycle is taken in the side's own mode and refused with CONDITIONS in the other. That the
list of the response has its count first is the model's choice of log 14. -/
def Obligations.DoorReleaseAtAStop : Prop :=
  (∀ (s : State) (side mode : Byte) (status : Status) (why : Reason), s.servesRequests →
    ((s.ctl.mode = .ready ∨ s.ctl.mode = .parked) ∧ status = .refused ∧ why = .mode ∨
      (s.ctl.mode = .service ∨ s.ctl.mode = .depot) ∧
        ((sideOf side = none ∨ releaseModeOf mode = none) ∧ status = .refused ∧ why = .range ∨
          sideOf side ≠ none ∧ releaseModeOf mode ≠ none ∧
            (s.bcu.test.running ≠ none ∧ status = .busy ∧ why = .busy ∨
              s.bcu.test.running = none ∧ status = .refused ∧ why = .conditions ∧
                (s.pou.standstill = false ∨ s.bcu.holdConf = false ∨ s.ssu.state = .trip ∨
                  s.ctl.mode = .service ∧ s.pou.last.posState ≠ .known)))) →
    ∃ t : State, exec (.doorRelease side mode) s = .next t ∧ Keeps [.port, .transmitter] s t ∧
      Answered t 0x30#8 status why []) ∧
  ∀ (s : State) (side mode : Byte) (x : Side) (m : ReleaseMode), s.servesRequests → sideOf side = some x →
    releaseModeOf mode = some m → s.bcu.test.running = none → s.pou.standstill = true → s.bcu.holdConf = true →
    s.ssu.state ≠ .trip → s.summaryTrue → s.bcu.evaluate s.readings = s.bcu →
    (s.ctl.mode = .depot ∨ s.ctl.mode = .service ∧ s.pou.last.posState = .known → s.sideInCycle x = true →
      (s.dcu.side x).mode ≠ m → ∃ t : State, exec (.doorRelease side mode) s = .next t ∧
        Keeps [.port, .transmitter] s t ∧ Answered t 0x30#8 .refused .conditions []) ∧
    (s.sideInCycle x = false ∨ (s.dcu.side x).mode = m →
    (s.ctl.mode = .depot → ∃ t : State, exec (.doorRelease side mode) s = .next t ∧
      (∀ l : Leaf, sideOfLeaf l = x → (s.dcu.leaf l).state = .locked →
        (t.dcu.leaf l).state = (if m = .passenger then .released else .opening)) ∧
      (∀ l : Leaf, sideOfLeaf l = x → (s.dcu.leaf l).state ≠ .locked → t.dcu.leaf l = s.dcu.leaf l) ∧
      Done t 0x30#8 (leafList (s.lockedLeaves x (fun _ => true))) ∧
      (t.dcu.side x).mode = m ∧ (t.dcu.side x).closingOut = false ∧ (t.dcu.side x).stop = none) ∧
    (s.ctl.mode = .service → s.pou.last.posState = .known →
      (platformLookup s.lineStops s.lrs.closure x s.spanLow s.spanHigh s.pou.last.u = .none →
        ∃ t : State, exec (.doorRelease side mode) s = .next t ∧ Keeps [.port, .transmitter] s t ∧
          Answered t 0x30#8 .refused .noStop []) ∧
      (∀ p : StopRec, platformLookup s.lineStops s.lrs.closure x s.spanLow s.spanHigh s.pou.last.u = .closed p →
        ∃ t : State, exec (.doorRelease side mode) s = .next t ∧ Keeps [.port, .transmitter] s t ∧
          Answered t 0x30#8 .refused .closed []) ∧
      (∀ p : StopRec, platformLookup s.lineStops s.lrs.closure x s.spanLow s.spanHigh s.pou.last.u = .found p →
        ∃ t : State, exec (.doorRelease side mode) s = .next t ∧
          (∀ l : Leaf, sideOfLeaf l = x → (s.dcu.leaf l).state = .locked →
            (t.dcu.leaf l).state =
              if s.leafFits p l = true then (if m = .passenger then .released else .opening) else .locked) ∧
          (∀ l : Leaf, sideOfLeaf l = x → (s.dcu.leaf l).state ≠ .locked → t.dcu.leaf l = s.dcu.leaf l) ∧
          Done t 0x30#8 (byteOf p.number :: leafList (s.lockedLeaves x (s.leafFits p))) ∧
          (t.dcu.side x).mode = m ∧ (t.dcu.side x).closingOut = false ∧
          (s.lockedLeaves x (s.leafFits p) ≠ [] → (t.dcu.side x).stop = some p.number))))

/-- A side closed out, by the crew and by the DCU itself (R124, R136 to R139). DOOR_WITHDRAW and DOOR_CLOSE of a side, in SERVICE and
DEPOT: both set its closing-out mark, return its RELEASED leaves to LOCKED and send a leaf OPEN with a dwell running to WARNING, or to
CLOSING where the warn lead is 0; DOOR_CLOSE, and DOOR_WITHDRAW in CREW mode, also closes a leaf that waits or is held open and clears the
attempt count and hold-open mark of every leaf of the side, while DOOR_WITHDRAW in PASSENGER mode leaves both. A leaf CLOSING or REVERSING
keeps that the close has reached it, the model's choice of log 39. In READY and PARKED they are refused with MODE. The DCU withdraws both
sides in the same way by itself at the pulse that ends standstill, at entry into TRIP, and when the mode leaves SERVICE or DEPOT, which
but for a full reset is by PARK (R138). So it is in every command that brings a TRIP: the leaf whose lost switch brings it is FAULT
besides, and of INPUT_FILTER_SETTLED, by which every leaf takes its switches, and START_SEQUENCE, which copies a new warn lead, only the
marks and the RELEASED leaves are spoken of. The closing-out mark is set by nothing else, and stands until a DOOR_RELEASE of the side or a
full reset (R124, R127). A command by which holding is no longer confirmed leaves no leaf RELEASED (R138). A side with no leaf in its
cycle has no release stop; a command that leaves one in it leaves the release stop standing, and one that leaves none returns it to none,
but for the release of that side itself (R128, R139). -/
def Obligations.SideIsClosedOut : Prop :=
  (∀ (s : State) (side : Byte) (x : Side), s.servesRequests → sideOf side = some x →
    (s.ctl.mode = .service ∨ s.ctl.mode = .depot → ∀ c : Instr, c = .doorWithdraw side ∨ c = .doorClose side →
      ∃ t : State, exec c s = .next t ∧ (t.dcu.side x).closingOut = true ∧
        Done t (if c = .doorWithdraw side then 0x31#8 else 0x32#8) [] ∧
        (∀ l : Leaf, sideOfLeaf l = x → (s.dcu.leaf l).closedOutTo
          (c = .doorClose side ∨ (s.dcu.side x).mode = .crew) s.lrs.settings.warnLead (t.dcu.leaf l))) ∧
    (s.ctl.mode = .ready ∨ s.ctl.mode = .parked →
      (∃ t : State, exec (.doorWithdraw side) s = .next t ∧ Keeps [.port, .transmitter] s t ∧
        Answered t 0x31#8 .refused .mode []) ∧
      (∃ t : State, exec (.doorClose side) s = .next t ∧ Keeps [.port, .transmitter] s t ∧
        Answered t 0x32#8 .refused .mode []))) ∧
  (∀ (s : State) (c : Instr), s.pou.standstill = true → c = .pinionPulse ∨ (∃ d : Direction, c = .wheelPulse d) →
    ∃ t : State, exec c s = .next t ∧ t.pou.standstill = false ∧ s.bothWithdrawn t) ∧
  (∀ (c : Instr) (s t : State), exec c s = .next t → s.ssu.state ≠ .trip → t.ssu.state = .trip →
    (∀ x : Side, (t.dcu.side x).closingOut = true) ∧ (∀ l : Leaf, (t.dcu.leaf l).state ≠ .released) ∧
      ((∀ levels : InputLevels, c ≠ .inputFilterSettled levels) → c ≠ .startSequence →
        ∀ l : Leaf, (∀ made : Bool, c ≠ .closedSwitchChange l made ∧ c ≠ .lockSwitchChange l made) →
          (s.dcu.leaf l).closedOutTo ((s.dcu.side (sideOfLeaf l)).mode = .crew) s.lrs.settings.warnLead (t.dcu.leaf l))) ∧
  (∀ (c : Instr) (s t : State), exec c s = .next t → (∀ cut : Cut, c ≠ .fullReset cut) →
    (s.ctl.mode = .service ∨ s.ctl.mode = .depot → t.ctl.mode ≠ s.ctl.mode → s.bothWithdrawn t) ∧
    ∀ x : Side,
      ((s.dcu.side x).closingOut = true → (t.dcu.side x).closingOut = true ∨
        ∃ side mode : Byte, c = .doorRelease side mode ∧ sideOf side = some x) ∧
      ((s.dcu.side x).closingOut = false → (t.dcu.side x).closingOut = true →
        (∃ side : Byte, (c = .doorWithdraw side ∨ c = .doorClose side) ∧ sideOf side = some x) ∨
          s.pou.standstill = true ∧ t.pou.standstill = false ∨ s.ssu.state ≠ .trip ∧ t.ssu.state = .trip ∨
          (s.ctl.mode = .service ∨ s.ctl.mode = .depot) ∧ t.ctl.mode ≠ s.ctl.mode) ∧
      (s.stopsTrue → (∀ side mode : Byte, c = .doorRelease side mode → sideOf side ≠ some x) →
        (t.dcu.side x).stop = if t.sideInCycle x = true then (s.dcu.side x).stop else none)) ∧
  (∀ (c : Instr) (s t : State), exec c s = .next t → (s.stopsTrue → t.stopsTrue) ∧
    (s.bcu.holdConf = true → t.bcu.holdConf = false → ∀ l : Leaf, (t.dcu.leaf l).state ≠ .released))

/-- DOOR_ISOLATE and DOOR_RESTORE (R142, R143): refused with MOVING unless at standstill; a LOCKED, RELEASED or FAULT leaf with its
closed switch made is ISOLATED, and counts as secure: the summary is SECURE where every other leaf is LOCKED or ISOLATED (R147); an
ISOLATED or FAULT leaf with closed and lock switch made is LOCKED; each latches DOOR_EVENT where it enters or leaves ISOLATED, and keeps
the obstruction record. Other states and switches are refused with CONDITIONS. -/
def Obligations.LeafIsIsolatedAndRestored : Prop :=
  ∀ (s : State) (leaf : Byte) (l : Leaf), s.servesRequests → leafOf leaf = some l →
    (s.pou.standstill = false → ∀ (c : Instr) (code : Byte),
      c = .doorIsolate leaf ∧ code = 0x33#8 ∨ c = .doorRestore leaf ∧ code = 0x34#8 →
      ∃ t : State, exec c s = .next t ∧ Keeps [.port, .transmitter] s t ∧ Answered t code .refused .moving []) ∧
    (s.pou.standstill = true →
      ((s.dcu.leaf l).state ∈ [LeafState.locked, .released, .fault] → (leafLevels s.inp.levels l).closed = true →
        ∃ t : State, exec (.doorIsolate leaf) s = .next t ∧ Done t 0x33#8 [] ∧ (t.dcu.leaf l).state = .isolated ∧
          (t.dcu.leaf l).attempts = 0 ∧ (t.dcu.leaf l).holdOpen = false ∧
          (t.dcu.leaf l).obstruction = (s.dcu.leaf l).obstruction ∧ t.cmp.causes.getLsbD 8 = true ∧
          (s.summaryTrue → t.summaryTrue) ∧
          ((∀ m : Leaf, m ≠ l → (s.dcu.leaf m).state = .locked ∨ (s.dcu.leaf m).state = .isolated) →
            t.dcu.secure = true)) ∧
      ((s.dcu.leaf l).state = .isolated → ∃ t : State, exec (.doorIsolate leaf) s = .next t ∧ Done t 0x33#8 [] ∧
        Keeps [.port, .transmitter] s t) ∧
      ((s.dcu.leaf l).state ≠ .isolated →
        (s.dcu.leaf l).state ∉ [LeafState.locked, .released, .fault] ∨ (leafLevels s.inp.levels l).closed = false →
        ∃ t : State, exec (.doorIsolate leaf) s = .next t ∧ Keeps [.port, .transmitter] s t ∧
          Answered t 0x33#8 .refused .conditions []) ∧
      ((s.dcu.leaf l).state = .isolated ∨ (s.dcu.leaf l).state = .fault →
        (leafLevels s.inp.levels l).closed = true → (leafLevels s.inp.levels l).lock = true →
        ∃ t : State, exec (.doorRestore leaf) s = .next t ∧ Done t 0x34#8 [] ∧ (t.dcu.leaf l).state = .locked ∧
          (t.dcu.leaf l).obstruction = (s.dcu.leaf l).obstruction ∧
          ((∀ m : Leaf, m ≠ l → (s.dcu.leaf m).state = .locked ∨ (s.dcu.leaf m).state = .isolated) →
            t.dcu.secure = true) ∧
          ((s.dcu.leaf l).state = .isolated → t.cmp.causes.getLsbD 8 = true)) ∧
      ((s.dcu.leaf l).state ≠ .isolated ∧ (s.dcu.leaf l).state ≠ .fault ∨
          (leafLevels s.inp.levels l).closed = false ∨ (leafLevels s.inp.levels l).lock = false →
        ∃ t : State, exec (.doorRestore leaf) s = .next t ∧ Keeps [.port, .transmitter] s t ∧
          Answered t 0x34#8 .refused .conditions []))

/-! ## The valley radio link -/

/-- The link and the transceiver (R71, R150 to R152, R165 to R167). SILENCE_REACHES_4S makes an UP link SILENT, and
SILENCE_REACHES_LOST_LIMIT makes a link LOST, cutting the chain back to the record that contains the worst-case front, or to nothing
where none does. The transceiver turned off drops its queue, its frame, its timers and its burst; turned ON again it forgets the last
taken record, with the link NONE, or LOST where the silence has reached the limit. -/
def Obligations.LinkFollowsSilenceAndTransceiver : Prop :=
  (∀ s : State, s.vru.link = .up → max s.vru.silence 4000 < s.lostLimit →
    ∃ t : State, exec .silenceReaches4s s = .next t ∧ t.vru.link = .silent ∧ t.vru.silence = max s.vru.silence 4000 ∧
      t.cmp.causes.getLsbD 3 = true ∧ t.aut = s.aut) ∧
  (∀ s : State, s.vru.link ≠ .lost →
    ∃ t : State, exec .silenceReachesLostLimit s = .next t ∧ t.vru.link = .lost ∧
      t.vru.silence = max s.vru.silence s.lostLimit ∧ t.vru.reportTimer = none ∧ t.cmp.causes.getLsbD 3 = true ∧
      ((∀ r ∈ s.aut.chain, r.contains s.front = false) → t.aut.chain = []) ∧
      (∀ (pre post : List Authority) (r : Authority), s.aut.chain = pre ++ r :: post →
        (∀ q ∈ pre, q.contains s.front = false) → r.contains s.front = true → t.aut.chain = pre ++ [r])) ∧
  (∀ s : State, s.vru.xcvr = .restarting → s.vru.restartTimer ≠ none →
    ∃ t : State, exec .restartTimerExpiry s = .next t ∧ t.vru.xcvr = .on ∧ t.vru.restartTimer = none ∧
      t.vru.lastTaken = none ∧ t.vru.silence = s.vru.silence ∧
      t.vru.link = (if s.lostLimit ≤ s.vru.silence then .lost else .none)) ∧
  (∀ s : State, s.servesRequests → s.ctl.mode ≠ .parked →
    (s.vru.xcvr ≠ .held → ∃ t : State, exec (.radioHold 1#8) s = .next t ∧ Keeps [.port, .radio, .transmitter] s t ∧
      Done t 0x38#8 [2#8] ∧ t.vru.xcvr = .held ∧ t.vru.queue = [] ∧ t.vru.sending = none ∧ t.vru.reportTimer = none ∧
      t.vru.burstCount = 0 ∧ t.vru.owed = none ∧ t.vru.rx = [] ∧ t.vru.link = s.vru.link ∧
      t.vru.silence = s.vru.silence) ∧
    (s.vru.xcvr = .held → ∃ t : State, exec (.radioHold 0#8) s = .next t ∧ Done t 0x38#8 [1#8] ∧ t.vru.xcvr = .on ∧
      t.vru.lastTaken = none ∧ t.vru.link = (if s.lostLimit ≤ s.vru.silence then .lost else .none)) ∧
    (s.vru.xcvr = .on → ∃ t : State, exec .radioRestart s = .next t ∧ Keeps [.port, .radio, .transmitter] s t ∧
      Done t 0x39#8 [] ∧ t.vru.xcvr = .restarting ∧ t.vru.restartTimer = some 1000 ∧ t.vru.queue = [] ∧
      t.vru.sending = none ∧ t.vru.reportTimer = none ∧ t.vru.burstCount = 0 ∧ t.vru.owed = none ∧
      t.vru.link = s.vru.link) ∧
    (s.vru.xcvr = .held → ∃ t : State, exec .radioRestart s = .next t ∧ Keeps [.port, .transmitter] s t ∧
      Answered t 0x39#8 .refused .conditions []) ∧
    (s.vru.xcvr = .restarting → ∃ t : State, exec .radioRestart s = .next t ∧ Keeps [.port, .transmitter] s t ∧
      Answered t 0x39#8 .busy .busy []))

/-- The transmitter (R159 to R164): the report timer, the burst timer and the delay of a broadcast probe each queue a REPORT, which a
REPORT already waiting carries, and set their timers anew; the REPORT is laid out as R160 and R162 give it. A frame sent makes room
for the next waiting, which takes the transmit sequence and the time of its bytes at 9600 baud. That a frame queued with nothing
being sent begins within the same command, and that the time of its bytes is rounded up to a millisecond, is the model's choice of
log 8. -/
def Obligations.TransmitterTimersSendReports : Prop :=
  (∀ (s : State) (c : Instr) (a : Nat), s.vru.latched = some a →
    (c = .reportTimerExpiry ∧ s.vru.reportTimer ≠ none ∨ c = .burstTimerExpiry ∧ s.vru.burstTimer ≠ none ∨
      c = .broadcastReportDelay ∧ s.vru.owed ≠ none) →
    ∃ t : State, exec c s = .next t ∧ Keeps [.radio, .transmitter] s t ∧ t.vru.link = s.vru.link ∧
      t.vru.sending ≠ none ∧ (s.vru.sending ≠ none → t.vru.queue.any CarFrame.isReport = true)) ∧
  (∀ (s : State) (a : Nat), s.vru.latched = some a → s.vru.reportTimer ≠ none → s.vru.queue = [] →
    s.vru.sending = none → ∃ t : State, exec .reportTimerExpiry s = .next t ∧ t.vru.queue = [] ∧
      t.vru.sending = some (radioFrame (byteOf a) 0x82#8 s.vru.txSeq (s.reportBody .periodic none)) ∧
      t.vru.txSeq = s.vru.txSeq + 1#8) ∧
  (∀ s : State, s.vru.reportTimer ≠ none → ∃ t : State, exec .reportTimerExpiry s = .next t ∧
    t.vru.reportTimer = (if s.vru.burstCount = 0 then some 2000 else none) ∧ t.vru.owed = s.vru.owed) ∧
  (∀ s : State, s.vru.burstTimer ≠ none → ∃ t : State, exec .burstTimerExpiry s = .next t ∧
    (1 < s.vru.burstCount → t.vru.burstCount = s.vru.burstCount - 1 ∧ t.vru.burstTimer = some 500 ∧
      t.vru.reportTimer = s.vru.reportTimer) ∧
    (s.vru.burstCount ≤ 1 → t.vru.burstCount = 0 ∧ t.vru.burstTimer = none ∧
      t.vru.reportTimer = (if s.vru.link = .up ∨ s.vru.link = .silent then some 2000 else none))) ∧
  (∀ s : State, s.vru.owed ≠ none → ∃ t : State, exec .broadcastReportDelay s = .next t ∧ t.vru.owed = none) ∧
  (∀ s : State, s.vru.sending ≠ none →
    (s.vru.queue = [] → ∃ t : State, exec .carFrameSent s = .next t ∧ t.vru.sending = none ∧ t.vru.sendTimer = none ∧
      t.vru.txSeq = s.vru.txSeq ∧ Keeps [.transmitter] s t) ∧
    (∀ (f : CarFrame) (rest : List CarFrame) (a : Nat), s.vru.queue = f :: rest → s.vru.latched = some a →
      ∃ t : State, exec .carFrameSent s = .next t ∧ t.vru.queue = rest ∧ t.vru.txSeq = s.vru.txSeq + 1#8 ∧
        t.vru.sending = some (s.carFrameBytes a f) ∧
        t.vru.sendTimer = some (((s.carFrameBytes a f).length * 25 + 23) / 24) ∧ Keeps [.transmitter] s t))

/-- The hunt and the sorting of frames (R153 to R156, R158). Outside a frame every byte but a start byte is discarded; in a frame a
missing stop bit and a gap of more than 20 ms end it, and any other byte is taken, until the bytes are those of a whole frame or its
length is above 40: what they then spell is the next command. A frame discarded, or broken off by a gap, changes the frame in progress
alone. A good frame for another car sets the heard-other flag alone. One of a car kind or an unknown kind makes the link UP and goes no
further. A directed frame whose sequence is the last taken one is not processed again: its stored ANSWER is queued once more. While
the VRU does not listen, no frame does anything. That bytes are examined one by one as the clock of log 1 runs, and what the frame in
progress holds after a discard or a gap, is the model's choice of log 33; that an idle transmitter begins the repeated ANSWER within
the same command is that of log 8. -/
def Obligations.FramesAreSortedAndNotRepeated : Prop :=
  (∀ (s : State) (b : LineByte) (rest : List LineByte), s.pending = [] → s.listening → s.inp.line = b :: rest →
    b.gap ≤ s.inp.lineWait + 1 → (∀ n ∈ rest.head?, s.inp.lineWait + 1 - b.gap < n.gap) →
    ∃ t : State, step s = .next t ∧ t.inp.line = rest ∧ t.inp.lineWait = s.inp.lineWait + 1 - b.gap ∧
      (s.vru.rx = [] → t.vru.rx = if b.stopBit = true ∧ b.value = 0xA5#8 then [0xA5#8] else []) ∧
      (s.vru.rx ≠ [] → b.stopBit = false → t.pending.getLast? = some (.frameDiscarded .framing)) ∧
      (s.vru.rx ≠ [] → b.stopBit = true → 20 < b.gap → t.pending.getLast? = some (.frameGapTimeout b.value)) ∧
      (s.vru.rx ≠ [] → b.stopBit = true → b.gap ≤ 20 → t.vru.rx = s.vru.rx ++ [b.value] ∧
        ∀ c : Instr, decodeRadioFrame s.vru.latched (s.vru.rx ++ [b.value]) = some c →
          t.pending.getLast? = some c)) ∧
  (∀ (c : Instr) (s : State) (b : Byte), (∃ r : DiscardReason, c = .frameDiscarded r) ∨ c = .frameGapTimeout b →
    s.listening → ∃ t : State, exec c s = .next t ∧ Keeps [.radio, .transmitter] s t ∧ t.vru.link = s.vru.link ∧
      t.vru.silence = s.vru.silence ∧ t.vru.lastTaken = s.vru.lastTaken ∧ t.vru.heardOther = s.vru.heardOther ∧
      t.vru.rx = (if c = .frameGapTimeout 0xA5#8 then [0xA5#8] else [])) ∧
  (∀ (c : Instr) (addr : Byte) (s : State), frameAddress c = some addr → s.foreign addr →
    ∃ t : State, exec c s = .next t ∧ Keeps [.radio, .transmitter] s t ∧ t.vru.heardOther = true ∧
      t.vru.link = s.vru.link ∧ t.vru.silence = s.vru.silence ∧ t.vru.lastTaken = s.vru.lastTaken) ∧
  (∀ (c : Instr) (addr : Byte) (s : State), frameAddress c = some addr → ¬ s.listening →
    ∃ t : State, exec c s = .next t ∧ Keeps [.transmitter] s t) ∧
  (∀ (addr kind : Byte) (s : State), s.addressed addr → ∃ t : State, exec (.carKindFrame addr kind) s = .next t ∧
    t.vru.link = .up ∧ t.vru.silence = 0 ∧ t.vru.lastTaken = s.vru.lastTaken ∧ t.aut = s.aut ∧ t.lrs = s.lrs ∧
    t.vru.heardOther = s.vru.heardOther ∧ t.ctl = s.ctl ∧
    (s.vru.link ≠ .up → t.cmp.causes.getLsbD 3 = true)) ∧
  (∀ (c : Instr) (addr seq : Byte) (s : State) (r : LastTaken), frameAddress c = some addr →
    frameSequence c = some seq → s.directed addr → s.vru.lastTaken = some r → r.seq = seq →
    ∃ t : State, exec c s = .next t ∧ t.vru.link = .up ∧ t.vru.silence = 0 ∧ t.vru.lastTaken = some r ∧ t.aut = s.aut ∧
      t.lrs = s.lrs ∧ t.ctl = s.ctl ∧ t.vru.sending ≠ none ∧
      (s.vru.sending ≠ none → r.kind ≠ .probe → t.vru.queue.getLast? = some (.answer r)))

/-- GRANT, new and directed (R63, R64): outside SERVICE it is answered MODE; a direction, id, extent, line or expiry check that fails, or
an id already held, RANGE; the other direction DIRECTION; a full chain FULL; a start that is not the far end, or an extent that does
not contain the car where the chain is empty, GAP: each leaves the chain. Else the record is appended with its cap clamped, its time
started, and OCCUPIED where the worst-case front has reached its start. From a broadcast none is taken. That the ANSWER begins within
the same command on an idle transmitter is the model's choice of log 8, RANGE for a chainage at the line end itself that of log 21,
and RANGE while the profile table is not CLOSED that of log 22. -/
def Obligations.GrantIsChecked : Prop :=
  ∀ (addr seq : Byte) (id : Half) (start stop : Chain) (dir : Byte) (cap expiry : Half) (s : State),
    (addr = 0#8 → s.listening → ∃ t : State, exec (.grant addr seq id start stop dir cap expiry) s = .next t ∧
      t.aut = s.aut ∧ t.vru.lastTaken = s.vru.lastTaken ∧ t.vru.link = .up) ∧
    (s.directed addr → s.newSequence seq →
      ∃ (t : State) (o : RadioOutcome), exec (.grant addr seq id start stop dir cap expiry) s = .next t ∧
        Processed s t seq .grant o none ∧ (o ≠ .taken → t.aut = s.aut) ∧
        (s.ctl.mode ≠ .service → o = .mode) ∧
        (s.ctl.mode = .service →
          (directionOf dir = none ∨ id = 0#16 ∨ s.onLine start.toNat = false ∨ s.onLine stop.toNat = false ∨
            600 < expiry.toNat ∨ id.toNat ∈ s.aut.chain.map Authority.id → o = .range) ∧
          (∀ d : Direction, directionOf dir = some d →
            (match d with
              | .up => stop.toNat ≤ start.toNat
              | .down => start.toNat ≤ stop.toNat) → o = .range) ∧
          (∀ d : Direction, directionOf dir = some d → id ≠ 0#16 →
            (match d with
              | .up => start.toNat < stop.toNat
              | .down => stop.toNat < start.toNat) →
            s.onLine start.toNat = true → s.onLine stop.toNat = true → expiry.toNat ≤ 600 →
            id.toNat ∉ s.aut.chain.map Authority.id →
            (d ≠ s.aut.selected → o = .direction) ∧
            (d = s.aut.selected → 6 ≤ s.aut.chain.length → o = .full) ∧
            (d = s.aut.selected → s.aut.chain.length < 6 →
              (∀ r : Authority, s.aut.chain.getLast? = some r →
                (r.stop ≠ start.toNat → o = .gap) ∧ (r.stop = start.toNat → o = .taken)) ∧
              (s.aut.chain = [] →
                ((min start.toNat stop.toNat : Int) ≤ s.spanLow ∧ s.spanHigh < (max start.toNat stop.toNat : Int) →
                  o = .taken) ∧
                (s.spanLow < (min start.toNat stop.toNat : Int) ∨ (max start.toNat stop.toNat : Int) ≤ s.spanHigh →
                  o = .gap)) ∧
              (o = .taken → t.cmp.causes.getLsbD 4 = true ∧ t.aut.selected = s.aut.selected ∧
                t.aut.chain = s.aut.chain ++
                  [{ id := id.toNat, start := start.toNat, stop := stop.toNat, dir := d, cap := min cap.toNat 2000,
                     expiry := expiry.toNat,
                     leftMs := if expiry.toNat = 0 then none else some (expiry.toNat * 1000),
                     occupation := if beyond d s.front start.toNat then .occupied else .ahead }])))))

/-- SHORTEN, REVOKE and RECORD_EXPIRY (R67, R69, R70): in SERVICE a SHORTEN within the record's extent, ahead of its start, moves its
end and retires the records after it, elsewhere it is RANGE; a REVOKE retires the record and those after it; an id not held is
UNKNOWN_ID; outside SERVICE both are MODE. From a broadcast neither is taken (R156). A record AHEAD whose time has run out is retired
with those after it. AUTHORITY_CHANGE is latched. That the ANSWER begins within the same command on an idle transmitter is the model's
choice of log 8. -/
def Obligations.RecordsAreShortenedAndRetired : Prop :=
  (∀ (addr seq : Byte) (id : Half) (e : Chain) (s : State) (c : Instr), s.directed addr → s.newSequence seq →
    (s.ctl.mode ≠ .service → (∃ t : State, exec (.shorten addr seq id e) s = .next t ∧
      Processed s t seq .shorten .mode none ∧ t.aut = s.aut) ∧
      ∃ t : State, exec (.revoke addr seq id) s = .next t ∧ Processed s t seq .revoke .mode none ∧ t.aut = s.aut) ∧
    (s.ctl.mode = .service → id.toNat ∉ s.aut.chain.map Authority.id →
      (∃ t : State, exec (.shorten addr seq id e) s = .next t ∧ Processed s t seq .shorten .unknownId none ∧
        t.aut = s.aut) ∧
      ∃ t : State, exec (.revoke addr seq id) s = .next t ∧ Processed s t seq .revoke .unknownId none ∧ t.aut = s.aut) ∧
    (s.ctl.mode = .service → ∀ (pre post : List Authority) (r : Authority), s.aut.chain = pre ++ r :: post →
      (∀ q ∈ pre, q.id ≠ id.toNat) → r.id = id.toNat →
      (c = .revoke addr seq id → ∃ t : State, exec c s = .next t ∧ Processed s t seq .revoke .taken none ∧
        t.aut.chain = pre ∧ t.aut.selected = s.aut.selected ∧ t.cmp.causes.getLsbD 4 = true) ∧
      (c = .shorten addr seq id e →
        ((match r.dir with
          | .up => r.start < e.toNat ∧ e.toNat ≤ r.stop
          | .down => r.stop ≤ e.toNat ∧ e.toNat < r.start) → ∃ t : State, exec c s = .next t ∧
            Processed s t seq .shorten .taken none ∧ t.aut.chain = pre ++ [{ r with stop := e.toNat }] ∧
            t.aut.selected = s.aut.selected ∧ t.cmp.causes.getLsbD 4 = true) ∧
        ((match r.dir with
          | .up => e.toNat ≤ r.start ∨ r.stop < e.toNat
          | .down => e.toNat < r.stop ∨ r.start ≤ e.toNat) → ∃ t : State, exec c s = .next t ∧
            Processed s t seq .shorten .range none ∧ t.aut = s.aut)))) ∧
  (∀ (seq : Byte) (id : Half) (e : Chain) (s : State) (c : Instr), s.listening →
    c = .shorten 0#8 seq id e ∨ c = .revoke 0#8 seq id → ∃ t : State, exec c s = .next t ∧ t.aut = s.aut ∧ t.lrs = s.lrs ∧
      t.vru.lastTaken = s.vru.lastTaken ∧ t.vru.link = .up ∧ t.vru.silence = 0 ∧
      t.cmp.causes.getLsbD 4 = s.cmp.causes.getLsbD 4) ∧
  (∀ (s : State) (pre post : List Authority) (r : Authority), s.aut.chain = pre ++ r :: post → r.occupation = .ahead →
    r.leftMs ≠ none → ∃ t : State, exec (.recordExpiry pre.length) s = .next t ∧ t.aut.chain = pre ∧
      t.aut.selected = s.aut.selected ∧ t.cmp.causes.getLsbD 4 = true)

/-- RESTRICT and LIFT, from valley control and from the crew (R51 to R55): a RESTRICT whose id, span, line and applies are in range, with
its limit clamped, takes the place of the record of its id and origin, or a free slot, and is answered with the slot it then has;
with id 0, a span that is empty or not on the line, or an applies that is none of the three it is answered RANGE, and where the record
of its id is of the other origin ORIGIN, each leaving the list. LIFT takes out the record of its id and origin. Each change latches
RESTRICTION_CHANGE. A broadcast RESTRICT or LIFT has the same effect, and no answer. In START valley control is answered MODE, a
broadcast changes no list, and the crew is answered BUSY, as in WAKING. That the ANSWER begins within the same command on an
idle transmitter is the model's choice of log 8, and that no span is on the line while the profile table is not CLOSED
that of log 22. -/
def Obligations.RestrictionsArePlacedAndLifted : Prop :=
  (∀ (addr seq : Byte) (id : Half) (start stop : Chain) (limit : Half) (code : Byte) (ap : Applies) (s : State)
      (f e : Nat) (r : Restriction), id ≠ 0#16 → start.toNat < stop.toNat → s.line = some (f, e) → f ≤ start.toNat →
    stop.toNat ≤ e → appliesOf code = some ap → r.id = id.toNat → r.start = start.toNat → r.stop = stop.toNat →
    r.limit = min limit.toNat 2000 → r.applies = ap →
    (∀ q ∈ s.lrs.restrictions, q.id = id.toNat → q.origin = r.origin) →
    s.lrs.restrictions.length < 24 ∨ id.toNat ∈ s.lrs.restrictions.map Restriction.id →
    (r.origin = .valley → s.ctl.mode ≠ .start → s.directed addr → s.newSequence seq →
      ∃ (t : State) (slot : Nat), exec (.restrictFrame addr seq id start stop limit code) s = .next t ∧
        Processed s t seq .restrict .taken (some slot) ∧ t.lrs.restrictions[slot]? = some r ∧
        (∀ q : Restriction, q ∈ t.lrs.restrictions ↔ q = r ∨ (q ∈ s.lrs.restrictions ∧ q.id ≠ id.toNat)) ∧
        t.lrs.overflow = s.lrs.overflow ∧ t.lrs.closure = s.lrs.closure ∧ t.cmp.causes.getLsbD 5 = true) ∧
    (r.origin = .valley → s.ctl.mode ≠ .start → s.listening →
      ∃ t : State, exec (.restrictFrame 0#8 seq id start stop limit code) s = .next t ∧
        t.vru.link = .up ∧ t.vru.lastTaken = s.vru.lastTaken ∧
        (∀ q : Restriction, q ∈ t.lrs.restrictions ↔ q = r ∨ (q ∈ s.lrs.restrictions ∧ q.id ≠ id.toNat)) ∧
        t.lrs.overflow = s.lrs.overflow ∧ t.lrs.closure = s.lrs.closure ∧ t.cmp.causes.getLsbD 5 = true) ∧
    (r.origin = .crew → s.servesRequests →
      ∃ (t : State) (slot : Nat), exec (.restrict id start stop limit code) s = .next t ∧
        Done t 0x23#8 [byteOf slot] ∧ t.lrs.restrictions[slot]? = some r ∧
        (∀ q : Restriction, q ∈ t.lrs.restrictions ↔ q = r ∨ (q ∈ s.lrs.restrictions ∧ q.id ≠ id.toNat)) ∧
        t.lrs.overflow = s.lrs.overflow ∧ t.lrs.closure = s.lrs.closure ∧ t.cmp.causes.getLsbD 5 = true)) ∧
  (∀ (addr seq : Byte) (id : Half) (start stop : Chain) (limit : Half) (code : Byte) (s : State) (o : RadioOutcome)
      (why : Reason) (giver : Origin),
    ((id = 0#16 ∨ stop.toNat ≤ start.toNat ∨ appliesOf code = none ∨ s.spanOnLine start.toNat stop.toNat = false) ∧
        o = .range ∧ why = .range ∨
      id ≠ 0#16 ∧ start.toNat < stop.toNat ∧ appliesOf code ≠ none ∧ s.spanOnLine start.toNat stop.toNat = true ∧
        id.toNat ∈ s.lrs.restrictions.map Restriction.id ∧
        (∀ q ∈ s.lrs.restrictions, q.id = id.toNat → q.origin ≠ giver) ∧ o = .origin ∧ why = .origin) →
    (giver = .valley → s.ctl.mode ≠ .start → s.directed addr → s.newSequence seq →
      ∃ t : State, exec (.restrictFrame addr seq id start stop limit code) s = .next t ∧
        Processed s t seq .restrict o none ∧ t.lrs = s.lrs) ∧
    (giver = .valley → s.ctl.mode ≠ .start → s.listening →
      ∃ t : State, exec (.restrictFrame 0#8 seq id start stop limit code) s = .next t ∧ t.vru.link = .up ∧
        t.vru.lastTaken = s.vru.lastTaken ∧ t.lrs = s.lrs) ∧
    (giver = .crew → s.servesRequests → ∃ t : State, exec (.restrict id start stop limit code) s = .next t ∧
      Keeps [.port, .transmitter] s t ∧ Answered t 0x23#8 .refused why [])) ∧
  (∀ (addr seq : Byte) (id : Half) (s : State) (pre post : List Restriction) (r : Restriction),
    s.lrs.restrictions = pre ++ r :: post → (∀ q ∈ pre, q.id ≠ id.toNat) → r.id = id.toNat →
    (s.ctl.mode ≠ .start → s.directed addr → s.newSequence seq →
      (r.origin = .valley → ∃ t : State, exec (.liftFrame addr seq id) s = .next t ∧ Processed s t seq .lift .taken none ∧
        (∀ q : Restriction, q ∈ t.lrs.restrictions ↔ q ∈ s.lrs.restrictions ∧ q.id ≠ id.toNat) ∧
        t.cmp.causes.getLsbD 5 = true) ∧
      (r.origin = .crew → ∃ t : State, exec (.liftFrame addr seq id) s = .next t ∧
        Processed s t seq .lift .origin none ∧ t.lrs = s.lrs)) ∧
    (s.ctl.mode ≠ .start → s.listening → ∃ t : State, exec (.liftFrame 0#8 seq id) s = .next t ∧ t.vru.link = .up ∧
      t.vru.lastTaken = s.vru.lastTaken ∧
      (r.origin = .valley → t.cmp.causes.getLsbD 5 = true ∧
        ∀ q : Restriction, q ∈ t.lrs.restrictions ↔ q ∈ s.lrs.restrictions ∧ q.id ≠ id.toNat) ∧
      (r.origin = .crew → t.lrs = s.lrs)) ∧
    (s.servesRequests →
      (r.origin = .crew → ∃ t : State, exec (.lift id) s = .next t ∧ Done t 0x24#8 [] ∧
        (∀ q : Restriction, q ∈ t.lrs.restrictions ↔ q ∈ s.lrs.restrictions ∧ q.id ≠ id.toNat) ∧
        t.cmp.causes.getLsbD 5 = true) ∧
      (r.origin = .valley → ∃ t : State, exec (.lift id) s = .next t ∧ Keeps [.port, .transmitter] s t ∧
        Answered t 0x24#8 .refused .origin []))) ∧
  (∀ (addr seq : Byte) (id : Half) (s : State), id.toNat ∉ s.lrs.restrictions.map Restriction.id →
    (s.ctl.mode ≠ .start → s.directed addr → s.newSequence seq → ∃ t : State, exec (.liftFrame addr seq id) s = .next t ∧
      Processed s t seq .lift .unknownId none ∧ t.lrs = s.lrs) ∧
    (s.ctl.mode ≠ .start → s.listening → ∃ t : State, exec (.liftFrame 0#8 seq id) s = .next t ∧ t.vru.link = .up ∧
      t.vru.lastTaken = s.vru.lastTaken ∧ t.lrs = s.lrs) ∧
    (s.servesRequests → ∃ t : State, exec (.lift id) s = .next t ∧ Keeps [.port, .transmitter] s t ∧
      Answered t 0x24#8 .refused .unknownId [])) ∧
  (∀ (addr seq : Byte) (id : Half) (start stop : Chain) (limit : Half) (code : Byte) (s : State) (c : Instr)
      (k : ValleyKind), s.ctl.mode = .start → s.directed addr → s.newSequence seq →
    c = .restrictFrame addr seq id start stop limit code ∧ k = .restrict ∨ c = .liftFrame addr seq id ∧ k = .lift ∨
      c = .flushOverflow addr seq ∧ k = .flushOverflow →
    ∃ t : State, exec c s = .next t ∧ Processed s t seq k .mode none ∧ t.lrs = s.lrs) ∧
  (∀ (seq : Byte) (id : Half) (start stop : Chain) (limit : Half) (code : Byte) (s : State) (c : Instr),
    (s.ctl.mode = .start → s.listening →
      c ∈ [Instr.restrictFrame 0#8 seq id start stop limit code, .liftFrame 0#8 seq id, .flushOverflow 0#8 seq] →
      ∃ t : State, exec c s = .next t ∧ t.vru.link = .up ∧ t.vru.lastTaken = s.vru.lastTaken ∧ t.lrs = s.lrs) ∧
    (s.ctl.mode = .start ∨ s.ctl.mode = .waking → s.portFree → ∀ b : Byte,
      (c = .restrict id start stop limit code ∧ b = 0x23#8 ∨ c = .lift id ∧ b = 0x24#8) →
      ∃ t : State, exec c s = .next t ∧ Keeps [.port, .transmitter] s t ∧ Answered t b .busy .busy []))

/-- The overflow record (R53, R56, R57): a valley restriction that finds 24 records and none of its id is answered FULL and absorbed,
the record then the smallest span and the lowest limit of all it absorbed, with OVERFLOW latched where that changes it, and as it was
where it does not; a broadcast one is absorbed alike, and not answered (R156); a crew restriction there is refused with FULL.
FLUSH_OVERFLOW empties it, latching OVERFLOW where it held something. That the ANSWER begins within the same command on an idle
transmitter is the model's choice of log 8. -/
def Obligations.FullListAbsorbsIntoOverflow : Prop :=
  (∀ (addr seq : Byte) (id : Half) (start stop : Chain) (limit : Half) (code : Byte) (ap : Applies) (s : State)
      (f e : Nat), id ≠ 0#16 → start.toNat < stop.toNat → s.line = some (f, e) → f ≤ start.toNat → stop.toNat ≤ e →
    appliesOf code = some ap → 24 ≤ s.lrs.restrictions.length → id.toNat ∉ s.lrs.restrictions.map Restriction.id →
    (s.ctl.mode ≠ .start → s.directed addr → s.newSequence seq →
      ∃ (t : State) (o : Overflow), exec (.restrictFrame addr seq id start stop limit code) s = .next t ∧
        Processed s t seq .restrict .full none ∧ t.lrs = { s.lrs with overflow := some o } ∧
        (s.lrs.overflow = none → o = { start := start.toNat, stop := stop.toNat, limit := min limit.toNat 2000 }) ∧
        (∀ q : Overflow, s.lrs.overflow = some q → o.start = min q.start start.toNat ∧
          o.stop = max q.stop stop.toNat ∧ o.limit = min q.limit (min limit.toNat 2000)) ∧
        (s.lrs.overflow ≠ some o → t.cmp.causes.getLsbD 6 = true) ∧
        (s.lrs.overflow = some o → t.cmp.causes.getLsbD 6 = s.cmp.causes.getLsbD 6)) ∧
    (s.ctl.mode ≠ .start → s.listening →
      ∃ (t : State) (o : Overflow), exec (.restrictFrame 0#8 seq id start stop limit code) s = .next t ∧
        t.vru.link = .up ∧ t.vru.lastTaken = s.vru.lastTaken ∧ t.lrs = { s.lrs with overflow := some o } ∧
        (s.lrs.overflow = none → o = { start := start.toNat, stop := stop.toNat, limit := min limit.toNat 2000 }) ∧
        (∀ q : Overflow, s.lrs.overflow = some q → o.start = min q.start start.toNat ∧
          o.stop = max q.stop stop.toNat ∧ o.limit = min q.limit (min limit.toNat 2000)) ∧
        (s.lrs.overflow ≠ some o → t.cmp.causes.getLsbD 6 = true) ∧
        (s.lrs.overflow = some o → t.cmp.causes.getLsbD 6 = s.cmp.causes.getLsbD 6)) ∧
    (s.servesRequests → ∃ t : State, exec (.restrict id start stop limit code) s = .next t ∧
      Keeps [.port, .transmitter] s t ∧ Answered t 0x23#8 .refused .full [])) ∧
  (∀ (addr seq : Byte) (s : State), s.ctl.mode ≠ .start → s.addressed addr → (addr ≠ 0#8 → s.newSequence seq) →
    ∃ t : State, exec (.flushOverflow addr seq) s = .next t ∧ t.lrs = { s.lrs with overflow := none } ∧
      (s.lrs.overflow ≠ none → t.cmp.causes.getLsbD 6 = true) ∧
      (addr ≠ 0#8 → Processed s t seq .flushOverflow .taken none))

/-- STOP_CLOSE and STOP_OPEN (R25, R26, R139), and PROBE (R159): a stop of the CLOSED table joins the closure set, with CLOSURE_CHANGE,
and its closing returns the RELEASED leaves of a side released there to LOCKED; a number of the set leaves it, with CLOSURE_CHANGE;
closing one already in the set, or opening one that is not, is TAKEN and changes nothing; a number neither in the set nor of a stop of a
CLOSED table is UNKNOWN_ID, as is every number not in the set before the table has been verified in START (R192). A directed PROBE is
answered with a REPORT that carries its sequence, which an idle transmitter then sends with the transmit sequence and the state reached,
as one REPORT with that of the link made UP or of a trip found (R160 to R162); the PROBE becomes the last taken record unless its
sequence is 0; a broadcast one makes a REPORT owed after 40 ms for each address below. That the ANSWER or REPORT begins within the same
command on an idle transmitter is the model's choice of log 8, and that the stop table answers R25 also while LOCK_TABLE runs on it that
of log 22. -/
def Obligations.ClosuresAndProbes : Prop :=
  (∀ (addr seq n : Byte) (s : State), s.addressed addr → (addr ≠ 0#8 → s.newSequence seq) →
    (n.toNat ∉ s.lrs.closure → s.nv.stopsT.state = .closed → s.ctl.stopsV ≠ none → ∀ p ∈ s.nv.stops, p.number = n.toNat →
      (∃ t : State, exec (.stopClose addr seq n) s = .next t ∧
        t.lrs = { s.lrs with closure := s.lrs.closure ++ [n.toNat] } ∧ t.cmp.causes.getLsbD 7 = true ∧
        (∀ l : Leaf, (s.dcu.leaf l).state = .released → (s.dcu.side (sideOfLeaf l)).stop = some n.toNat →
          (t.dcu.leaf l).state = .locked) ∧ (addr ≠ 0#8 → Processed s t seq .stopClose .taken none)) ∧
      ∃ t : State, exec (.stopOpen addr seq n) s = .next t ∧ t.lrs = s.lrs ∧
        t.cmp.causes.getLsbD 7 = s.cmp.causes.getLsbD 7 ∧
        (addr ≠ 0#8 → Processed s t seq .stopOpen .taken none)) ∧
    (n.toNat ∈ s.lrs.closure →
      (∃ t : State, exec (.stopClose addr seq n) s = .next t ∧ t.lrs = s.lrs ∧
        t.cmp.causes.getLsbD 7 = s.cmp.causes.getLsbD 7 ∧
        (addr ≠ 0#8 → Processed s t seq .stopClose .taken none)) ∧
      ∃ t : State, exec (.stopOpen addr seq n) s = .next t ∧ t.cmp.causes.getLsbD 7 = true ∧
        t.lrs = { s.lrs with closure := s.lrs.closure.filter (fun k => k ≠ n.toNat) } ∧
        (addr ≠ 0#8 → Processed s t seq .stopOpen .taken none)) ∧
    (n.toNat ∉ s.lrs.closure →
        (s.nv.stopsT.state ≠ .closed ∨ s.ctl.stopsV = none ∨ ∀ p ∈ s.nv.stops, p.number ≠ n.toNat) →
      (∃ t : State, exec (.stopClose addr seq n) s = .next t ∧ t.lrs = s.lrs ∧
        (addr ≠ 0#8 → Processed s t seq .stopClose .unknownId none)) ∧
      ∃ t : State, exec (.stopOpen addr seq n) s = .next t ∧ t.lrs = s.lrs ∧
        (addr ≠ 0#8 → Processed s t seq .stopOpen .unknownId none))) ∧
  (∀ (addr seq : Byte) (s : State), s.directed addr → seq = 0#8 ∨ s.newSequence seq →
    ∃ t : State, exec (.probe addr seq) s = .next t ∧ t.vru.link = .up ∧ t.vru.silence = 0 ∧ t.aut = s.aut ∧
      t.lrs = s.lrs ∧ t.vru.sending ≠ none ∧
      t.vru.lastTaken = (if seq = 0#8 then s.vru.lastTaken
        else some { seq := seq, kind := .probe, outcome := .taken, slot := none }) ∧
      (s.vru.sending ≠ none → ∃ o : Occasion, CarFrame.report o (some seq) ∈ t.vru.queue) ∧
      (s.vru.sending = none → s.vru.queue = [] → t.vru.queue = [] ∧ t.vru.txSeq = s.vru.txSeq + 1#8 ∧
        t.vru.sending = some (radioFrame addr 0x82#8 s.vru.txSeq (t.reportBody
          (if s.vru.link = .none ∨ s.vru.link = .lost then .linkUp
            else if s.ssu.state ≠ .trip ∧ t.ssu.state = .trip then .tripBurst else .probe) (some seq))))) ∧
  (∀ (seq : Byte) (s : State), s.listening → ∃ t : State, exec (.probe 0#8 seq) s = .next t ∧ t.vru.link = .up ∧
    t.vru.lastTaken = s.vru.lastTaken ∧ (s.vru.owed ≠ none → t.vru.owed = s.vru.owed) ∧
    (s.vru.owed = none → t.vru.owed = s.vru.latched.map (fun a => 40 * a)))

/-! ## The Command Port -/

/-- The port's one place for a response (R204 to R206). A read clocks out the waiting response from the read position, zeros past its last
byte or with none waiting; ended short of the last byte it begins again, ended at it the response is read. A bad frame and an unknown
code become responses at once. The response of the request in progress becomes the waiting one, its frame the length, the status, the
reason, the echoed code and the items, with the CRC-8 over them. While a request is in progress every frame is dropped. Every request
frame, taken, dropped or bad, has only zeros clocked out beside it. That a read of n clocks counts the first byte and may come in parts
is the model's choice of log 24, and that the answer is held until RESPONSE_READY that of log 13. -/
def Obligations.PortServesOneRequest : Prop :=
  (∀ (n : Nat) (ends : Bool) (s : State), ∃ t : State, exec (.readTransaction n ends) s = .next t ∧
    Keeps [.port, .transmitter] s t ∧ t.cmp.inProgress = s.cmp.inProgress ∧ t.cmp.dataOut.length = n ∧
    (s.cmp.waiting = none → t.cmp.waiting = none ∧ t.cmp.rdy = s.cmp.rdy ∧ ∀ i < n, t.cmp.dataOut[i]? = some 0#8) ∧
    (∀ f : List Byte, s.cmp.waiting = some f →
      (∀ i < n, t.cmp.dataOut[i]? = some ((f[s.cmp.readPos + i]?).getD 0#8)) ∧
      (ends = true → f.length ≤ s.cmp.readPos + n → t.cmp.waiting = none ∧ t.cmp.rdy = false) ∧
      (ends = true → s.cmp.readPos + n < f.length → t.cmp.waiting = some f ∧ t.cmp.rdy = s.cmp.rdy ∧
        t.cmp.readPos = 0) ∧
      (ends = false → t.cmp.waiting = some f ∧ t.cmp.rdy = s.cmp.rdy ∧
        t.cmp.readPos = min (s.cmp.readPos + n) f.length))) ∧
  (∀ s : State, s.portFree →
    (∃ t : State, exec .badFrame s = .next t ∧ Keeps [.port, .transmitter] s t ∧ t.cmp.rdy = true ∧ t.cmp.readPos = 0 ∧
      t.cmp.waiting = some [3#8, 3#8, 0#8, crc8 [3#8, 3#8, 0#8]] ∧ t.portFree) ∧
    ∀ code : Byte, ∃ t : State, exec (.unknownRequest code) s = .next t ∧ Keeps [.port, .transmitter] s t ∧
      t.cmp.rdy = true ∧ t.cmp.readPos = 0 ∧
      t.cmp.waiting = some [4#8, 4#8, 0#8, code, crc8 [4#8, 4#8, 0#8, code]] ∧ t.portFree) ∧
  (∀ (s : State) (r : InProgress), s.cmp.inProgress = some r → r.answer.status ≠ .badFrame →
    ∃ (t : State) (head : List Byte), exec .responseReady s = .next t ∧ Keeps [.port, .transmitter] s t ∧ t.portFree ∧
      t.cmp.waiting = some (head ++ [crc8 head]) ∧ t.cmp.readPos = 0 ∧ t.cmp.rdy = true ∧
      head = BitVec.ofNat 8 (r.answer.items.length + 4) :: r.answer.status.code :: r.answer.reason.code :: r.code ::
        r.answer.items) ∧
  (∀ (c : Instr) (s : State), ¬ s.portFree → encodeRequest c ≠ none ∨ c = .badFrame ∨
      (∃ code : Byte, c = .unknownRequest code) →
    ∃ t : State, exec c s = .next t ∧ Keeps [.port, .transmitter] s t ∧
      t.cmp = { s.cmp with dataOut := t.cmp.dataOut }) ∧
  (∀ (c : Instr) (s : State), encodeRequest c ≠ none ∨ c = .badFrame ∨ (∃ code : Byte, c = .unknownRequest code) →
    ∃ t : State, exec c s = .next t ∧ ∀ i : Nat, t.cmp.outByte i = 0#8)

/-- The gates before an owner's own checks. In START and WAKING every request that is no status request is answered BUSY (R194). A depot
request is refused in this order with RUN_LOCK, MODE, KEY, SUPPLY and BUSY (R173). Nothing but the port, and the keyswitch line as
read, changes. -/
def Obligations.RequestsAreGated : Prop :=
  (∀ (c : Instr) (code : Byte) (args : List Byte) (s : State), wellFormed c = true →
    encodeRequest c = some (code, args) → 0x0B < code.toNat → s.portFree →
    s.ctl.mode = .start ∨ s.ctl.mode = .waking →
    ∃ t : State, exec c s = .next t ∧ Keeps [.port, .transmitter] s t ∧ Answered t code .busy .busy []) ∧
  (∀ (c : Instr) (code : Byte) (args : List Byte) (s : State), wellFormed c = true →
    encodeRequest c = some (code, args) → isDepotRequest c = true → s.servesRequests →
    ∃ t : State, exec c s = .next t ∧ t.inp.key = keyOf c ∧
      (s.nvc.runLock = true → Keeps [.port, .inp, .transmitter] s t ∧ Answered t code .refused .runLock []) ∧
      (s.nvc.runLock = false →
        (s.ctl.mode ≠ .depot → Keeps [.port, .inp, .transmitter] s t ∧ Answered t code .refused .mode []) ∧
        (s.ctl.mode = .depot →
          (keyOf c = false → Keeps [.port, .inp, .transmitter] s t ∧ Answered t code .refused .key []) ∧
          (keyOf c = true →
            (s.nvc.lockout = true → Keeps [.port, .inp, .transmitter] s t ∧ Answered t code .refused .supply []) ∧
            (s.nvc.lockout = false → s.nvc.op ≠ none →
              Keeps [.port, .inp, .transmitter] s t ∧ Answered t code .busy .busy [])))))

/-- The status requests and the cause set (R49, R89, R98, R123, R148, R168, R189, R202, R208, R209). In every mode each status request
is answered DONE with its items as they stand and changes nothing; READ_LINK then clears the heard-other flag, and READ_TABLES takes the
keyswitch line as read. CLEAR_CAUSES clears the causes of its mask and returns the set left; SET_CAUSE_MASK sets the enable mask and
returns it, and is BUSY in START and WAKING; the bits above 16 are disregarded. The layout of the items, where the rules name them
without one, is the model's choice of log 14, the order and code of the switches in READ_BRAKES and READ_DOORS that of log 62, and
the codes no list gives are that of log 15; so are the code 0 for no segment at the
pinion point (log 55), the failing conditions of READ_BRAKES as the request finds them (log 61), v_perm sent once in READ_SUPERVISION
(log 50), the number of records of the car record, and of a table while an operation runs on it, in READ_TABLES (log 23), its line end
absent unless the table is CLOSED (log 58), and its batch items in NONE (log 54); and the barring tables READ_MODE lists in every mode
(log 60). -/
def Obligations.StatusRequestsAnswerAsTheyStand : Prop :=
  (∀ s : State, s.portFree →
    (∃ t : State, exec .readPosition s = .next t ∧ Keeps [.port, .transmitter] s t ∧ Done t 0x01#8 s.positionItems) ∧
    (∃ t : State, exec .readSupervision s = .next t ∧ Keeps [.port, .transmitter] s t ∧
      Done t 0x02#8 s.supervisionItems) ∧
    (∃ t : State, exec .readTrip s = .next t ∧ Keeps [.port, .transmitter] s t ∧ Done t 0x03#8 s.tripRequestItems) ∧
    (∃ t : State, exec .readBrakes s = .next t ∧ Keeps [.port, .transmitter] s t ∧ Done t 0x04#8 s.brakeItems) ∧
    (∃ t : State, exec .readDoors s = .next t ∧ Keeps [.port, .transmitter] s t ∧ Done t 0x05#8 s.doorItems) ∧
    (∀ (b : Byte) (l : Leaf), leafOf b = some l → ∃ t : State, exec (.readObstruction b) s = .next t ∧
      Keeps [.port, .transmitter] s t ∧ Done t 0x06#8 (leafObstructionItems (s.dcu.leaf l))) ∧
    (∀ b : Byte, leafOf b = none → ∃ t : State, exec (.readObstruction b) s = .next t ∧
      Keeps [.port, .transmitter] s t ∧ Answered t 0x06#8 .refused .range []) ∧
    (∃ t : State, exec .readLink s = .next t ∧ Keeps [.port, .radio, .transmitter] s t ∧ Done t 0x07#8 s.linkItems ∧
      t.vru.lessTransmitter = { s.vru.lessTransmitter with heardOther := false }) ∧
    (∀ key : Bool, ∃ t : State, exec (.readTables key) s = .next t ∧ Keeps [.port, .inp, .transmitter] s t ∧
      t.inp = { s.inp with key := key } ∧ Done t 0x08#8 { s with inp := { s.inp with key := key } }.tablesItems) ∧
    (∃ t : State, exec .readMode s = .next t ∧ Keeps [.port, .transmitter] s t ∧ Done t 0x09#8 s.modeItems) ∧
    (∃ t : State, exec .readCauses s = .next t ∧ Keeps [.port, .transmitter] s t ∧
      Done t 0x0A#8 (chainArg (s.cmp.causes.setWidth 24) ++ chainArg (s.cmp.mask.setWidth 24)))) ∧
  (∀ (mask : Chain) (s : State),
    (s.portFree → ∃ t : State, exec (.clearCauses mask) s = .next t ∧ Keeps [.port, .causes, .transmitter] s t ∧
      t.cmp.causes = s.cmp.causes &&& ~~~(mask.setWidth 17) ∧ t.cmp.mask = s.cmp.mask ∧
      (t.cmp.attn = true ↔ t.cmp.causes &&& t.cmp.mask ≠ 0#17) ∧
      Done t 0x0B#8 (chainArg (t.cmp.causes.setWidth 24))) ∧
    (s.servesRequests → ∃ t : State, exec (.setCauseMask mask) s = .next t ∧
      Keeps [.port, .causes, .transmitter] s t ∧ t.cmp.causes = s.cmp.causes ∧ t.cmp.mask = mask.setWidth 17 ∧
      (t.cmp.attn = true ↔ t.cmp.causes &&& t.cmp.mask ≠ 0#17) ∧
      Done t 0x0C#8 (chainArg (t.cmp.mask.setWidth 24))) ∧
    (s.portFree → s.ctl.mode = .start ∨ s.ctl.mode = .waking → ∃ t : State, exec (.setCauseMask mask) s = .next t ∧
      Keeps [.port, .transmitter] s t ∧ Answered t 0x0C#8 .busy .busy []))

/-- The lookup requests (R2, R8, R12, R20, R24, R59, R74, R210): each reads the records as stored and changes nothing; a segment has its
end only in a CLOSED table (R3, R8); an index or slot with no record is refused with RANGE, a stop number with none with UNKNOWN_ID, and
a table under an operation with BUSY. That READ_SETTINGS is served while the car record is under an operation is the model's choice of
log 36, and the layout of the items that of log 14; so are the values of the car record shown while an operation runs that leaves it
CLOSED (log 36), and the last extent that LOOKUP_AT takes as open where READ_SEGMENT shows no end (log 58). -/
def Obligations.LookupsReadTheRecords : Prop :=
  ∀ s : State, s.servesRequests →
    (s.underOperation .profile = false →
      (∀ c : Chain, ∃ t : State, exec (.lookupAt c) s = .next t ∧ Keeps [.port, .transmitter] s t ∧
        Done t 0x10#8 (s.lookupItems c.toNat)) ∧
      (∀ (i : Half) (g : Segment), s.nv.segments[i.toNat]? = some g →
        ∃ t : State, exec (.readSegment i) s = .next t ∧ Keeps [.port, .transmitter] s t ∧
          Done t 0x11#8 (({ g with endC := if s.nv.profileT.state = .closed then g.endC else none } : Segment).image ++
            halfBytes s.nv.segments.length ++ [s.nv.profileT.state.code])) ∧
      (∀ i : Half, s.nv.segments.length ≤ i.toNat → ∃ t : State, exec (.readSegment i) s = .next t ∧
        Keeps [.port, .transmitter] s t ∧ Answered t 0x11#8 .refused .range [])) ∧
    (s.underOperation .profile = true →
      (∀ c : Chain, ∃ t : State, exec (.lookupAt c) s = .next t ∧ Keeps [.port, .transmitter] s t ∧
        Answered t 0x10#8 .busy .busy []) ∧
      ∀ i : Half, ∃ t : State, exec (.readSegment i) s = .next t ∧ Keeps [.port, .transmitter] s t ∧
        Answered t 0x11#8 .busy .busy []) ∧
    (∀ n : Byte,
      (s.underOperation .stops = false → ∀ (pre post : List StopRec) (p : StopRec), s.nv.stops = pre ++ p :: post →
        p.number = n.toNat → (∀ q ∈ pre, q.number ≠ n.toNat) → ∃ t : State, exec (.findStop n) s = .next t ∧
          Keeps [.port, .transmitter] s t ∧ Done t 0x12#8 (s.stopItems p pre.length)) ∧
      (s.underOperation .stops = false → (∀ q ∈ s.nv.stops, q.number ≠ n.toNat) →
        ∃ t : State, exec (.findStop n) s = .next t ∧ Keeps [.port, .transmitter] s t ∧
          Answered t 0x12#8 .refused .unknownId []) ∧
      (s.underOperation .stops = true → ∃ t : State, exec (.findStop n) s = .next t ∧
        Keeps [.port, .transmitter] s t ∧ Answered t 0x12#8 .busy .busy [])) ∧
    (∀ n : Byte,
      (∀ r : Restriction, s.lrs.restrictions[n.toNat]? = some r → ∃ t : State, exec (.readRestriction n) s = .next t ∧
        Keeps [.port, .transmitter] s t ∧ Done t 0x13#8 (s.restrictionItems r)) ∧
      (s.lrs.restrictions.length ≤ n.toNat → ∃ t : State, exec (.readRestriction n) s = .next t ∧
        Keeps [.port, .transmitter] s t ∧ Answered t 0x13#8 .refused .range []) ∧
      (∀ r : Authority, s.aut.chain[n.toNat]? = some r → ∃ t : State, exec (.readAuthority n) s = .next t ∧
        Keeps [.port, .transmitter] s t ∧ Done t 0x14#8 (s.authorityItems r)) ∧
      (s.aut.chain.length ≤ n.toNat → ∃ t : State, exec (.readAuthority n) s = .next t ∧
        Keeps [.port, .transmitter] s t ∧ Answered t 0x14#8 .refused .range [])) ∧
    (s.underOperation .car = false → ∃ t : State, exec .readCarRecord s = .next t ∧
      Keeps [.port, .transmitter] s t ∧ Done t 0x15#8 s.carItems) ∧
    (s.underOperation .car = true → ∃ t : State, exec .readCarRecord s = .next t ∧
      Keeps [.port, .transmitter] s t ∧ Answered t 0x15#8 .busy .busy []) ∧
    (∃ t : State, exec .readSettings s = .next t ∧ Keeps [.port, .transmitter] s t ∧ Done t 0x16#8 s.settingsItems)

/-! ## Requests of the crew and changes of mode -/

/-- SET_SETTING, SET_POSITION, SELECT_DIRECTION and TRIP_RESET (R22, R37, R62, R96), each with the refusals of its rule in their order and,
where it is taken, the value it sets: a setting clamped to its range, with every channel applied; a position placed by the crew, KNOWN
at U_SET and DISENGAGED, with both ends on the line where the profile table is CLOSED; a direction with the chain empty; and TRIP left,
at standstill, for the state a car at rest indicates. The model's choices are the two bytes in which a setting is answered (log 45),
the line end, which lies off the line (log 21), and the line as the table's state gives it (log 22), the POU's own standstill for
SELECT_DIRECTION (log 49), and the state byte of a TRIP_RESET outside TRIP (log 51). -/
def Obligations.CrewRequestsOnTheLine : Prop :=
  (∀ (x : Byte) (v : Half) (s : State), s.servesRequests →
    (s.ctl.mode = .ready ∨ s.ctl.mode = .parked → ∃ t : State, exec (.setSetting x v) s = .next t ∧
      Keeps [.port, .transmitter] s t ∧ Answered t 0x20#8 .refused .mode []) ∧
    (s.ctl.mode = .service ∨ s.ctl.mode = .depot →
      (x = 0#8 ∨ 4 < x.toNat → ∃ t : State, exec (.setSetting x v) s = .next t ∧ Keeps [.port, .transmitter] s t ∧
        Answered t 0x20#8 .refused .range []) ∧
      (x ≠ 0#8 → x.toNat ≤ 4 → s.bcu.pb1.state ≠ .applied ∨ s.bcu.pb2.state ≠ .applied ∨ s.bcu.wbDemand = .off ∨
          s.pou.standstill = false → ∃ t : State, exec (.setSetting x v) s = .next t ∧
        Keeps [.port, .transmitter] s t ∧ Answered t 0x20#8 .refused .heldRequired []) ∧
      (s.bcu.pb1.state = .applied → s.bcu.pb2.state = .applied → s.bcu.wbDemand ≠ .off → s.pou.standstill = true →
        (x = 1#8 → ∃ (t : State) (n : Nat), exec (.setSetting x v) s = .next t ∧ n = max 3 (min 60 v.toNat) ∧
          Done t 0x20#8 (halfBytes n) ∧ t.lrs.settings = { s.lrs.settings with openDwell := n }) ∧
        (x = 2#8 → ∃ (t : State) (n : Nat), exec (.setSetting x v) s = .next t ∧ n = min 5 v.toNat ∧
          Done t 0x20#8 (halfBytes n) ∧ t.lrs.settings = { s.lrs.settings with warnLead := n }) ∧
        (x = 3#8 → ∃ (t : State) (n : Nat), exec (.setSetting x v) s = .next t ∧ n = min 30 v.toNat / 2 * 2 ∧
          Done t 0x20#8 (halfBytes n) ∧ t.lrs.settings = { s.lrs.settings with linkGrace := n } ∧
          (s.vru.link = .silent → 4000 + 1000 * n + 1000 * s.vru.shadow ≤ s.vru.silence → t.vru.link = .lost)) ∧
        (x = 4#8 → ∃ (t : State) (n : Nat), exec (.setSetting x v) s = .next t ∧ n = max 15000 (min 40000 v.toNat) ∧
          Done t 0x20#8 (halfBytes n) ∧ t.lrs.settings = { s.lrs.settings with wheelCirc := n })))) ∧
  (∀ (c : Chain) (s : State), s.servesRequests →
    (s.ctl.mode = .parked → ∃ t : State, exec (.setPosition c) s = .next t ∧ Keeps [.port, .transmitter] s t ∧
      Answered t 0x21#8 .refused .mode []) ∧
    (s.ctl.mode ≠ .parked →
      (s.pou.standstill = false → ∃ t : State, exec (.setPosition c) s = .next t ∧ Keeps [.port, .transmitter] s t ∧
        Answered t 0x21#8 .refused .moving []) ∧
      (s.pou.standstill = true →
        (s.ctl.mode ≠ .depot → s.pou.posState = .known → ∃ t : State, exec (.setPosition c) s = .next t ∧
          Keeps [.port, .transmitter] s t ∧ Answered t 0x21#8 .refused .conditions []) ∧
        (s.ctl.mode = .depot ∨ s.pou.posState ≠ .known →
          (c.toNat < s.cfg.carLength → ∃ t : State, exec (.setPosition c) s = .next t ∧
            Keeps [.port, .transmitter] s t ∧ Answered t 0x21#8 .refused .range []) ∧
          (s.tableState .profile = .closed →
            s.onLine c.toNat = false ∨ s.onLine ((c.toNat : Int) - s.cfg.carLength) = false →
            ∃ t : State, exec (.setPosition c) s = .next t ∧ Keeps [.port, .transmitter] s t ∧
              Answered t 0x21#8 .refused .range []) ∧
          (s.cfg.carLength ≤ c.toNat → (s.tableState .profile = .closed →
              s.onLine c.toNat = true ∧ s.onLine ((c.toNat : Int) - s.cfg.carLength) = true) →
            ∃ t : State, exec (.setPosition c) s = .next t ∧ Keeps [.port, .pou, .rollback, .transmitter] s t ∧
              Done t 0x21#8 (chainBytes c.toNat ++ halfBytes s.cfg.uSet) ∧ t.pou.fine = c.toNat * 100 ∧
              t.pou.u = s.cfg.uSet ∧ t.pou.uBase = s.cfg.uSet ∧ t.pou.dR = 0 ∧ t.pou.dW = 0 ∧
              t.pou.posState = .known ∧ t.pou.engagement = .disengaged ∧ t.pou.prevSeg = none ∧
              t.pou.rollback = 0 ∧ t.pou.last = s.pou.last))))) ∧
  (∀ (b : Byte) (s : State), s.servesRequests →
    (s.ctl.mode = .parked → ∃ t : State, exec (.selectDirection b) s = .next t ∧ Keeps [.port, .transmitter] s t ∧
      Answered t 0x22#8 .refused .mode []) ∧
    (s.ctl.mode ≠ .parked →
      (directionOf b = none → ∃ t : State, exec (.selectDirection b) s = .next t ∧ Keeps [.port, .transmitter] s t ∧
        Answered t 0x22#8 .refused .range []) ∧
      (∀ d : Direction, directionOf b = some d →
        (s.pou.standstill = false → ∃ t : State, exec (.selectDirection b) s = .next t ∧
          Keeps [.port, .transmitter] s t ∧ Answered t 0x22#8 .refused .moving []) ∧
        (s.pou.standstill = true → s.aut.chain ≠ [] → ∃ t : State, exec (.selectDirection b) s = .next t ∧
          Keeps [.port, .transmitter] s t ∧ Answered t 0x22#8 .refused .notEmpty []) ∧
        (s.pou.standstill = true → s.aut.chain = [] → ∃ t : State, exec (.selectDirection b) s = .next t ∧
          Done t 0x22#8 [] ∧ t.aut = { chain := [], selected := d } ∧ t.pou.rollback = 0)))) ∧
  (∀ s : State, s.servesRequests →
    (s.pou.standstill = false → ∃ t : State, exec .tripReset s = .next t ∧ Keeps [.port, .transmitter] s t ∧
      Answered t 0x25#8 .refused .moving []) ∧
    (s.pou.standstill = true → s.ssu.state ≠ .trip → ∃ t : State, exec .tripReset s = .next t ∧
      Keeps [.port, .transmitter] s t ∧ Done t 0x25#8 [s.ssu.state.code]) ∧
    (s.pou.standstill = true → s.ssu.state = .trip → ∃ t : State, exec .tripReset s = .next t ∧
      Done t 0x25#8 [t.ssu.state.code] ∧ t.ssu.trip = none ∧
      t.ssu.state = (if s.cfg.warnMargin ≤ s.ssu.vPerm then .clear else .advise) ∧ t.bcu.ebDemand = false))

/-- The requests that change the mode, and the end of WAKING (R188, R191, R195 to R201). ENTER_SERVICE needs READY with every table CLOSED,
and sets the run lock; ENTER_DEPOT needs READY with the key; PARK needs SERVICE at standstill, holding confirmed, doors SECURE, and
empties the chain, holds the transceiver and forgets the brake test; WAKE needs PARKED, and raises U, turns the transceiver ON and
starts the 2 s settle timer, at whose end the mode is SERVICE. A change of mode turns the drive request OFF. That the barring tables and
the failing conditions of a refusal are listed with their count first is the model's choice of log 14. -/
def Obligations.ModeRequestsMoveTheMode : Prop :=
  (∀ s : State, s.servesRequests →
    (s.ctl.mode ≠ .ready →
      (∃ t : State, exec .enterService s = .next t ∧ Keeps [.port, .transmitter] s t ∧
        Answered t 0x40#8 .refused .mode []) ∧
      ∀ key : Bool, ∃ t : State, exec (.enterDepot key) s = .next t ∧ Keeps [.port, .inp, .transmitter] s t ∧
        Answered t 0x41#8 .refused .mode []) ∧
    (s.ctl.mode = .ready →
      ((∃ x : Table, (s.nv.info x).state ≠ .closed) → ∃ t : State, exec .enterService s = .next t ∧
        Keeps [.port, .transmitter] s t ∧ Answered t 0x40#8 .refused .tables s.barringItems) ∧
      ((∀ x : Table, (s.nv.info x).state = .closed) → ∃ t : State, exec .enterService s = .next t ∧
        Done t 0x40#8 [] ∧ t.ctl.mode = .service ∧ t.nvc.runLock = true ∧ t.bcu.driveReq = false) ∧
      (∃ t : State, exec (.enterDepot false) s = .next t ∧ Keeps [.port, .inp, .transmitter] s t ∧
        Answered t 0x41#8 .refused .key []) ∧
      ∃ t : State, exec (.enterDepot true) s = .next t ∧ Done t 0x41#8 [] ∧ t.ctl.mode = .depot ∧
        t.nvc = s.nvc ∧ t.bcu.driveReq = false) ∧
    (s.ctl.mode ≠ .service → ∃ t : State, exec .park s = .next t ∧ Keeps [.port, .transmitter] s t ∧
      Answered t 0x42#8 .refused .mode []) ∧
    (s.ctl.mode = .service →
      (∀ failing : List Nat, failing = (if s.pou.standstill then [] else [1]) ++ (if s.bcu.holdConf then [] else [2]) ++
          (if s.dcu.secure then [] else [3]) → failing ≠ [] → ∃ t : State, exec .park s = .next t ∧
        Keeps [.port, .transmitter] s t ∧ Answered t 0x42#8 .refused .conditions (numberItems failing)) ∧
      (s.pou.standstill = true → s.bcu.holdConf = true → s.dcu.secure = true → ∃ t : State, exec .park s = .next t ∧
        Done t 0x42#8 [] ∧ t.ctl.mode = .parked ∧ t.aut = { chain := [], selected := s.aut.selected } ∧
        (s.aut.chain ≠ [] → t.cmp.causes.getLsbD 4 = true) ∧ t.vru.xcvr = .held ∧ t.vru.queue = [] ∧
        t.vru.sending = none ∧ t.bcu.test = .notDone ∧ t.bcu.testRec = none ∧ t.bcu.driveReq = false ∧
        t.bcu.permission = false ∧ t.lrs = s.lrs ∧ t.nvc = s.nvc)) ∧
    (s.ctl.mode ≠ .parked → ∃ t : State, exec .wake s = .next t ∧ Keeps [.port, .transmitter] s t ∧
      Answered t 0x43#8 .refused .mode []) ∧
    (s.ctl.mode = .parked → ∃ t : State, exec .wake s = .next t ∧ Done t 0x43#8 [] ∧ t.ctl.mode = .waking ∧
      t.ctl.settle = some 2000 ∧ t.pou.u = min (s.pou.u + s.cfg.wakeAllowance) 65535 ∧ t.pou.uBase = t.pou.u ∧
      t.pou.dR = 0 ∧ t.pou.dW = 0 ∧ t.pou.fine = s.pou.fine ∧ t.vru.xcvr = .on ∧ t.vru.silence = 0 ∧
      t.vru.link = .none ∧ t.vru.lastTaken = none)) ∧
  (∀ s : State, s.ctl.mode = .waking → s.ctl.settle ≠ none → ∃ t : State, exec .settleTimerExpiry s = .next t ∧
    t.ctl.mode = .service ∧ t.ctl.settle = none ∧ t.nvc.runLock = true ∧ t.bcu.driveReq = false)

/-! ## The depot -/

/-- The depot requests past their gate (R174, R176 to R179, R181, R182, R184 to R187): an operation taken is in flight with its time
limit, answered DONE at once, and the table whose records it changes is INCOMPLETE without check word, its lock standing, and where it was
CLOSED the records that rest on it are emptied (R25, R58, R172); a batch is opened, filled image by image within its declared count, and
committed or reset; LOCK_TABLE and PROGRAM_IDENTITY mark no table. Each is refused by the checks of its rule in their order, and then
nothing but the port and the keyswitch line as read changes, except where the rule aborts the batch. The model's choices are the line end
of CLOSE_TABLE that is absent or has another presence byte, refused with RANGE (log 14), the records left as they are until the operation
ends (log 23), bits 13 to 15 of the presence mask of WRITE_CAR_RECORD, which name no field and are disregarded, so that the record is
taken with any of them set (log 46), the batch of NONE, with no table and count 0 (log 54), and an image whose absent field has other
bytes than zeros, which is taken (log 57). -/
def Obligations.DepotRequestsStartTheirWork : Prop :=
  (∀ (s : State) (b : Byte) (x : Table), s.depotOpen → tableOf b = some x →
    (s.nvc.batch.state = .none ∨ s.nvc.batch.table ≠ some x →
      ((s.nv.info x).lock = false → ∃ t : State, exec (.eraseTable true b) s = .next t ∧ Done t 0x50#8 [] ∧
        t.nvc.op = some { op := .erase x, limit := 3000, elapsed := 0 } ∧ t.nv.records = s.nv.records ∧
        ((s.nv.info x).state = .closed → t.lrs.emptiedBy x) ∧
        t.nv.info x = { state := .incomplete, check := none, lock := false, unwritten := none }) ∧
      ((s.nv.info x).lock = true → ∃ t : State, exec (.unlockTable true b) s = .next t ∧ Done t 0x59#8 [] ∧
        t.nvc.op = some { op := .unlock x, limit := 3000, elapsed := 0 } ∧ t.nv.records = s.nv.records ∧
        ((s.nv.info x).state = .closed → t.lrs.emptiedBy x) ∧
        t.nv.info x = { state := .incomplete, check := none, lock := true, unwritten := none })) ∧
    ((s.nv.info x).lock = true → ∃ t : State, exec (.eraseTable true b) s = .next t ∧
      Keeps [.port, .inp, .transmitter] s t ∧ Answered t 0x50#8 .refused .locked []) ∧
    ((s.nv.info x).lock = false → (s.nv.info x).state = .closed → ∃ t : State, exec (.lockTable true b) s = .next t ∧
      Done t 0x58#8 [] ∧ t.nvc.op = some { op := .lock x, limit := 50, elapsed := 0 } ∧ t.nv = s.nv) ∧
    ((s.nv.info x).lock = true → ∃ t : State, exec (.lockTable true b) s = .next t ∧
      Keeps [.port, .inp, .transmitter] s t ∧ Done t 0x58#8 [])) ∧
  (∀ (s : State) (b n : Byte) (x : Table), s.depotOpen → loadTableOf b = some x →
    ((s.nv.info x).state = .empty ∨ (s.nv.info x).state = .loading →
      (s.nvc.batch.state = .none → 1 ≤ n.toNat → n.toNat ≤ 32 →
        s.nv.stored x + n.toNat ≤ (if x = .profile then 1024 else 48) →
        ∃ t : State, exec (.openBatch true b n) s = .next t ∧ Keeps [.port, .inp, .nvc, .transmitter] s t ∧
          Done t 0x51#8 [] ∧ t.nvc.batch =
            { state := .opened, table := some x, declared := n.toNat, segments := [], stops := [] }) ∧
      (s.nvc.batch.state = .none ∨ s.nvc.batch.table ≠ some x →
        (∀ (p : Byte) (e : Chain), x = .stops → ∃ t : State, exec (.closeTable true b p e) s = .next t ∧ Done t 0x55#8 [] ∧
          t.nvc.op = some { op := .close .stops 0, limit := 500, elapsed := 0 } ∧
          (t.nv.info x).state = .incomplete ∧ (t.nv.info x).check = none ∧ t.nv.records = s.nv.records) ∧
        (∀ e : Chain, x = .profile → profileOk e.toNat s.nv.segments = true →
          ∃ t : State, exec (.closeTable true b 1#8 e) s = .next t ∧ Done t 0x55#8 [] ∧
            t.nvc.op = some { op := .close .profile e.toNat, limit := 500, elapsed := 0 } ∧
            (t.nv.info x).state = .incomplete ∧ (t.nv.info x).check = none ∧ t.nv.records = s.nv.records) ∧
        (∀ e : Chain, x = .profile → profileOk e.toNat s.nv.segments = false →
          ∃ t : State, exec (.closeTable true b 1#8 e) s = .next t ∧ Keeps [.port, .inp, .transmitter] s t ∧
            Answered t 0x55#8 .refused .badStructure [])))) ∧
  (∀ s : State, s.depotOpen → s.nvc.batch.state = .opened →
    (∀ (image : List Byte) (g : Segment), image.length = 15 → s.nvc.batch.table = some .profile →
      parseSegment image = some g →
      (s.nvc.batch.segments.length < s.nvc.batch.declared → s.nvc.batch.segments.length < 255 →
        ∃ t : State, exec (.putRecord true image) s = .next t ∧ Keeps [.port, .inp, .nvc, .transmitter] s t ∧
          Done t 0x52#8 [BitVec.ofNat 8 (s.nvc.batch.segments.length + 1)] ∧
          t.nvc.batch = { s.nvc.batch with segments := s.nvc.batch.segments ++ [g] }) ∧
      (s.nvc.batch.declared ≤ s.nvc.batch.segments.length →
        ∃ t : State, exec (.putRecord true image) s = .next t ∧ Keeps [.port, .inp, .nvc, .transmitter] s t ∧
          Answered t 0x52#8 .refused .count [] ∧ t.nvc.batch = { s.nvc.batch with state := .aborted })) ∧
    (∀ (image : List Byte) (p : StopRec), imageLengthOk image = true → s.nvc.batch.table = some .stops →
      parseStop image = some p →
      (s.nvc.batch.stops.length < s.nvc.batch.declared → s.nvc.batch.stops.length < 255 →
        ∃ t : State, exec (.putRecord true image) s = .next t ∧ Keeps [.port, .inp, .nvc, .transmitter] s t ∧
          Done t 0x52#8 [BitVec.ofNat 8 (s.nvc.batch.stops.length + 1)] ∧
          t.nvc.batch = { s.nvc.batch with stops := s.nvc.batch.stops ++ [p] }) ∧
      (s.nvc.batch.declared ≤ s.nvc.batch.stops.length →
        ∃ t : State, exec (.putRecord true image) s = .next t ∧ Keeps [.port, .inp, .nvc, .transmitter] s t ∧
          Answered t 0x52#8 .refused .count [] ∧ t.nvc.batch = { s.nvc.batch with state := .aborted })) ∧
    (∀ x : Table, s.nvc.batch.table = some x → s.nvc.batch.declared ≤ s.nvc.batch.held →
      (s.batchOrdered = true → ∃ t : State, exec (.commitBatch true) s = .next t ∧ Done t 0x53#8 [] ∧
        t.nvc.op = some { op := .commit x, limit := 5 * s.nvc.batch.declared, elapsed := 0 } ∧
        t.nvc.batch = { s.nvc.batch with state := .programming } ∧ (t.nv.info x).state = .incomplete ∧
        (t.nv.info x).check = none ∧ t.nv.records = s.nv.records) ∧
      (s.batchOrdered = false → ∃ t : State, exec (.commitBatch true) s = .next t ∧
        Keeps [.port, .inp, .nvc, .transmitter] s t ∧ Answered t 0x53#8 .refused .order [] ∧
        t.nvc.batch = { s.nvc.batch with state := .aborted })) ∧
    (s.nvc.batch.held < s.nvc.batch.declared → ∃ t : State, exec (.commitBatch true) s = .next t ∧
      Keeps [.port, .inp, .nvc, .transmitter] s t ∧ Answered t 0x53#8 .refused .count [] ∧
      t.nvc.batch = { s.nvc.batch with state := .aborted })) ∧
  (∀ s : State, s.depotOpen →
    (∀ b : Byte, tableOf b = none → RefusedInDepot (.eraseTable true b) s 0x50#8 .range ∧
      RefusedInDepot (.lockTable true b) s 0x58#8 .range ∧ RefusedInDepot (.unlockTable true b) s 0x59#8 .range) ∧
    (∀ (b : Byte) (x : Table), tableOf b = some x →
      ((s.nv.info x).lock = false → s.nvc.batch.state ≠ .none → s.nvc.batch.table = some x →
        RefusedInDepot (.eraseTable true b) s 0x50#8 .conditions) ∧
      ((s.nv.info x).lock = false ∨ s.nvc.batch.state ≠ .none ∧ s.nvc.batch.table = some x →
        RefusedInDepot (.unlockTable true b) s 0x59#8 .conditions) ∧
      ((s.nv.info x).lock = false → (s.nv.info x).state ≠ .closed →
        RefusedInDepot (.lockTable true b) s 0x58#8 .conditions)) ∧
    (∀ b n p : Byte, ∀ e : Chain, loadTableOf b = none → RefusedInDepot (.openBatch true b n) s 0x51#8 .range ∧
      RefusedInDepot (.closeTable true b p e) s 0x55#8 .range) ∧
    (∀ (b n : Byte) (x : Table), loadTableOf b = some x →
      (n = 0#8 ∨ 32 < n.toNat → RefusedInDepot (.openBatch true b n) s 0x51#8 .range) ∧
      (1 ≤ n.toNat → n.toNat ≤ 32 →
        (s.nvc.batch.state = .aborted → RefusedInDepot (.openBatch true b n) s 0x51#8 .aborted) ∧
        (s.nvc.batch.state = .opened → RefusedInDepot (.openBatch true b n) s 0x51#8 .conditions) ∧
        (s.nvc.batch.state = .none →
          ((s.nv.info x).state ∉ [TableState.empty, .loading] →
            RefusedInDepot (.openBatch true b n) s 0x51#8 .conditions) ∧
          ((s.nv.info x).state ∈ [TableState.empty, .loading] →
            (if x = .profile then 1024 else 48) < s.nv.stored x + n.toNat →
            RefusedInDepot (.openBatch true b n) s 0x51#8 .full)))) ∧
    (∀ (b p : Byte) (e : Chain) (x : Table), loadTableOf b = some x →
      (s.nvc.batch.state ≠ .none ∧ s.nvc.batch.table = some x ∨ (s.nv.info x).state ∉ [TableState.empty, .loading] →
        RefusedInDepot (.closeTable true b p e) s 0x55#8 .conditions) ∧
      (s.nvc.batch.state = .none ∨ s.nvc.batch.table ≠ some x → (s.nv.info x).state ∈ [TableState.empty, .loading] →
        x = .profile → p ≠ 1#8 → RefusedInDepot (.closeTable true b p e) s 0x55#8 .range)) ∧
    (s.nvc.batch.state = .none ∨ s.nvc.batch.state = .aborted → ∀ why : Reason,
      why = (if s.nvc.batch.state = .none then .conditions else .aborted) →
      RefusedInDepot (.commitBatch true) s 0x53#8 why ∧
        ∀ image : List Byte, imageLengthOk image = true → RefusedInDepot (.putRecord true image) s 0x52#8 why) ∧
    (s.nvc.batch.state = .opened → ∀ image : List Byte, imageLengthOk image = true →
      (s.nvc.batch.table = some .profile ∧ parseSegment image = none ∨
        s.nvc.batch.table = some .stops ∧ parseStop image = none) →
      RefusedInDepot (.putRecord true image) s 0x52#8 .range) ∧
    (∀ (m : Half) (image : List Byte), image.length = 66 → s.nv.carT.lock = false → parseConfig m image = none →
      RefusedInDepot (.writeCarRecord true m image) s 0x56#8 .range) ∧
    (∀ (serial : Quad) (cls : Half), s.nv.idLock = false → 255 < cls.toNat →
      RefusedInDepot (.programIdentity true serial cls) s 0x57#8 .range) ∧
    (s.nvc.batch.state = .none → ∃ t : State, exec (.batchReset true) s = .next t ∧
      Keeps [.port, .inp, .transmitter] s t ∧ Done t 0x54#8 [])) ∧
  (∀ s : State, s.depotOpen →
    (s.nvc.batch.state = .opened ∨ s.nvc.batch.state = .aborted → ∃ t : State, exec (.batchReset true) s = .next t ∧
      Keeps [.port, .inp, .nvc, .transmitter] s t ∧ Done t 0x54#8 [] ∧
      t.nvc.batch = { state := .none, table := none, declared := 0, segments := [], stops := [] }) ∧
    (∀ (m : Half) (image : List Byte) (c : CarConfig), image.length = 66 → parseConfig m image = some c →
      s.nv.carT.lock = false → ∃ t : State, exec (.writeCarRecord true m image) s = .next t ∧ Done t 0x56#8 [] ∧
        t.nvc.op = some { op := .writeCar c, limit := 100, elapsed := 0 } ∧ t.nv.carT.state = .incomplete ∧
        t.nv.carT.check = none ∧ t.nv.carT.lock = false ∧ t.nv.records = s.nv.records) ∧
    (∀ (m : Half) (image : List Byte), image.length = 66 → s.nv.carT.lock = true →
      ∃ t : State, exec (.writeCarRecord true m image) s = .next t ∧ Keeps [.port, .inp, .transmitter] s t ∧
        Answered t 0x56#8 .refused .locked []) ∧
    (∀ (serial : Quad) (cls : Half),
      (s.nv.idLock = false → cls.toNat ≤ 255 → ∃ t : State, exec (.programIdentity true serial cls) s = .next t ∧ Done t 0x57#8 [] ∧
        t.nv = s.nv ∧ t.nvc.op = some { op := .programIdentity { serial := serial.toNat, cls := cls.toNat },
                                        limit := 50, elapsed := 0 }) ∧
      (s.nv.idLock = true → ∃ t : State, exec (.programIdentity true serial cls) s = .next t ∧
        Keeps [.port, .inp, .transmitter] s t ∧ Answered t 0x57#8 .refused .locked [])))

/-- The end of a nonvolatile operation, and the supply (R174 to R176, R180, R182, R184 to R187, R193). The last write confirmed within
the limit, the operation has done its work on the records, table state, check word and lock; at its time limit, and at a supply lockout,
it ends NV_FAULT, the table it had marked staying INCOMPLETE, and a table whose unlocking failed staying locked. That the records stand
as they were until the operation ends, so that a commit adds the batch to those found then, is the model's choice of log 23. Each end
latches NV_DONE, is recorded, and drops a batch in PROGRAMMING. The write of a verification result is done once confirmed and else made
again. -/
def Obligations.OperationsEndAsRecorded : Prop :=
  (∀ (s : State) (f : InFlight), s.nvc.op = some f → f.elapsed ≤ f.limit →
    ∃ t : State, exec .nvWriteConfirmed s = .next t ∧ t.nvc.op = none ∧
      t.nvc.opRec = some { op := f.op, result := .done } ∧ t.cmp.causes.getLsbD 12 = true ∧
      (s.nvc.batch.state = .programming → t.nvc.batch.state = .none) ∧
      (∀ x : Table, f.op = .erase x → (t.nv.info x).state = .empty ∧ (t.nv.info x).check = none ∧
        (t.nv.info x).lock = (s.nv.info x).lock ∧ t.nv.stored x = 0 ∧ t.nv.identity = s.nv.identity) ∧
      (f.op = .commit .profile → t.nv.segments = s.nv.segments ++ s.nvc.batch.segments ∧
        t.nv.profileT.state = .loading ∧ t.nv.stops = s.nv.stops ∧ t.nv.config = s.nv.config) ∧
      (f.op = .commit .stops → t.nv.stopsT.state = .loading ∧ t.nv.segments = s.nv.segments ∧
        ∀ p : StopRec, p ∈ t.nv.stops ↔ p ∈ s.nv.stops ∨ p ∈ s.nvc.batch.stops) ∧
      (∀ e : Nat, f.op = .close .profile e → t.nv.profileT.state = .closed ∧
        t.nv.profileT.check = some (t.nv.checkWord .profile) ∧ t.nv.segments.length = s.nv.segments.length ∧
        (s.nv.segments ≠ [] → t.nv.lineEnd = some e) ∧ t.nv.stops = s.nv.stops) ∧
      (∀ e : Nat, f.op = .close .stops e → t.nv.stopsT.state = .closed ∧
        t.nv.stopsT.check = some (t.nv.checkWord .stops) ∧ t.nv.records = s.nv.records) ∧
      (∀ c : CarConfig, f.op = .writeCar c → t.nv.config = some c ∧ t.nv.carT.state = .closed ∧
        t.nv.carT.check = some (t.nv.checkWord .car) ∧ t.nv.carT.lock = s.nv.carT.lock) ∧
      (∀ i : Identity, f.op = .programIdentity i → t.nv.identity = some i ∧ t.nv.idLock = true ∧
        t.nv.records = s.nv.records) ∧
      (∀ x : Table, f.op = .lock x → t.nv.info x = { s.nv.info x with lock := true } ∧ t.nv.records = s.nv.records) ∧
      (∀ x : Table, f.op = .unlock x → (t.nv.info x).state = .empty ∧ (t.nv.info x).lock = false ∧
        t.nv.stored x = 0)) ∧
  (∀ (s : State) (f : InFlight) (cut : Cut) (c : Instr) (r : NvResult), s.nvc.op = some f →
    (c = .nvTimeLimit cut ∧ r = .faultTime ∨ c = .supplyLockout cut ∧ r = .faultSupply ∧ s.nvc.lockout = false) →
    ∃ t : State, exec c s = .next t ∧ t.nvc.op = none ∧ t.nvc.opRec = some { op := f.op, result := r } ∧
      t.cmp.causes.getLsbD 12 = true ∧ (s.nvc.batch.state = .programming → t.nvc.batch.state = .none) ∧
      (∀ x : Table, (t.nv.info x).state = (s.nv.info x).state ∨ (t.nv.info x).state = .incomplete) ∧
      (∀ x : Table, f.op = .lock x → t.nv.records = s.nv.records ∧ (t.nv.info x).lock = (s.nv.info x).lock) ∧
      (∀ x : Table, f.op = .unlock x → (t.nv.info x).lock = (s.nv.info x).lock ∧
        (t.nv.info x).state = (s.nv.info x).state) ∧
      (∀ i : Identity, f.op = .programIdentity i → t.nv.records = s.nv.records ∧ t.nv.identity = s.nv.identity ∧
        t.nv.idLock = s.nv.idLock)) ∧
  (∀ (s : State) (cut : Cut), s.nvc.op = none →
    (∃ t : State, exec (.supplyLockout cut) s = .next t ∧ t.nvc = { s.nvc with lockout := true } ∧
      Keeps [.nv, .nvc, .transmitter] s t ∧ t.nv.records = s.nv.records) ∧
    ∃ t : State, exec .supplyNormal s = .next t ∧ t.nvc = { s.nvc with lockout := false } ∧
      Keeps [.nv, .nvc, .transmitter] s t ∧ t.nv.records = s.nv.records ∧
      ∀ (x : Table) (u : Unwritten), (s.nv.info x).unwritten = some u →
        (t.nv.info x).unwritten = some { u with running := true }) ∧
  (∀ (x : Table) (confirmed : Bool) (s : State) (u : Unwritten), (s.nv.info x).unwritten = some u → u.running = true →
    ∃ t : State, exec (.verifyWriteConfirmed x confirmed) s = .next t ∧
      t.nv.info x = { s.nv.info x with unwritten := if confirmed then none else some u } ∧
      t.nv.records = s.nv.records ∧ ∀ y : Table, y ≠ x → t.nv.info y = s.nv.info y)
end

