-- ==== Sys2Proof/Laws/State.lean ====
section
/-! SUPPORT. One lemma per field per update of the state: reading a block after an update of the same or of another block. -/

namespace Sys2Proof.Machine

@[simp] theorem State.onNv_nv (f : Nv → Nv) (s : State) : (s.onNv f).nv = f s.nv := rfl
@[simp] theorem State.onNv_lrs (f : Nv → Nv) (s : State) : (s.onNv f).lrs = s.lrs := rfl
@[simp] theorem State.onNv_pou (f : Nv → Nv) (s : State) : (s.onNv f).pou = s.pou := rfl
@[simp] theorem State.onNv_aut (f : Nv → Nv) (s : State) : (s.onNv f).aut = s.aut := rfl
@[simp] theorem State.onNv_ssu (f : Nv → Nv) (s : State) : (s.onNv f).ssu = s.ssu := rfl
@[simp] theorem State.onNv_bcu (f : Nv → Nv) (s : State) : (s.onNv f).bcu = s.bcu := rfl
@[simp] theorem State.onNv_dcu (f : Nv → Nv) (s : State) : (s.onNv f).dcu = s.dcu := rfl
@[simp] theorem State.onNv_vru (f : Nv → Nv) (s : State) : (s.onNv f).vru = s.vru := rfl
@[simp] theorem State.onNv_nvc (f : Nv → Nv) (s : State) : (s.onNv f).nvc = s.nvc := rfl
@[simp] theorem State.onNv_ctl (f : Nv → Nv) (s : State) : (s.onNv f).ctl = s.ctl := rfl
@[simp] theorem State.onNv_cmp (f : Nv → Nv) (s : State) : (s.onNv f).cmp = s.cmp := rfl
@[simp] theorem State.onNv_inp (f : Nv → Nv) (s : State) : (s.onNv f).inp = s.inp := rfl
@[simp] theorem State.onNv_pending (f : Nv → Nv) (s : State) : (s.onNv f).pending = s.pending := rfl
@[simp] theorem State.onNv_drawn (f : Nv → Nv) (s : State) : (s.onNv f).drawn = s.drawn := rfl

@[simp] theorem State.onLrs_nv (f : Lrs → Lrs) (s : State) : (s.onLrs f).nv = s.nv := rfl
@[simp] theorem State.onLrs_lrs (f : Lrs → Lrs) (s : State) : (s.onLrs f).lrs = f s.lrs := rfl
@[simp] theorem State.onLrs_pou (f : Lrs → Lrs) (s : State) : (s.onLrs f).pou = s.pou := rfl
@[simp] theorem State.onLrs_aut (f : Lrs → Lrs) (s : State) : (s.onLrs f).aut = s.aut := rfl
@[simp] theorem State.onLrs_ssu (f : Lrs → Lrs) (s : State) : (s.onLrs f).ssu = s.ssu := rfl
@[simp] theorem State.onLrs_bcu (f : Lrs → Lrs) (s : State) : (s.onLrs f).bcu = s.bcu := rfl
@[simp] theorem State.onLrs_dcu (f : Lrs → Lrs) (s : State) : (s.onLrs f).dcu = s.dcu := rfl
@[simp] theorem State.onLrs_vru (f : Lrs → Lrs) (s : State) : (s.onLrs f).vru = s.vru := rfl
@[simp] theorem State.onLrs_nvc (f : Lrs → Lrs) (s : State) : (s.onLrs f).nvc = s.nvc := rfl
@[simp] theorem State.onLrs_ctl (f : Lrs → Lrs) (s : State) : (s.onLrs f).ctl = s.ctl := rfl
@[simp] theorem State.onLrs_cmp (f : Lrs → Lrs) (s : State) : (s.onLrs f).cmp = s.cmp := rfl
@[simp] theorem State.onLrs_inp (f : Lrs → Lrs) (s : State) : (s.onLrs f).inp = s.inp := rfl
@[simp] theorem State.onLrs_pending (f : Lrs → Lrs) (s : State) : (s.onLrs f).pending = s.pending := rfl
@[simp] theorem State.onLrs_drawn (f : Lrs → Lrs) (s : State) : (s.onLrs f).drawn = s.drawn := rfl

@[simp] theorem State.onPou_nv (f : Pou → Pou) (s : State) : (s.onPou f).nv = s.nv := rfl
@[simp] theorem State.onPou_lrs (f : Pou → Pou) (s : State) : (s.onPou f).lrs = s.lrs := rfl
@[simp] theorem State.onPou_pou (f : Pou → Pou) (s : State) : (s.onPou f).pou = f s.pou := rfl
@[simp] theorem State.onPou_aut (f : Pou → Pou) (s : State) : (s.onPou f).aut = s.aut := rfl
@[simp] theorem State.onPou_ssu (f : Pou → Pou) (s : State) : (s.onPou f).ssu = s.ssu := rfl
@[simp] theorem State.onPou_bcu (f : Pou → Pou) (s : State) : (s.onPou f).bcu = s.bcu := rfl
@[simp] theorem State.onPou_dcu (f : Pou → Pou) (s : State) : (s.onPou f).dcu = s.dcu := rfl
@[simp] theorem State.onPou_vru (f : Pou → Pou) (s : State) : (s.onPou f).vru = s.vru := rfl
@[simp] theorem State.onPou_nvc (f : Pou → Pou) (s : State) : (s.onPou f).nvc = s.nvc := rfl
@[simp] theorem State.onPou_ctl (f : Pou → Pou) (s : State) : (s.onPou f).ctl = s.ctl := rfl
@[simp] theorem State.onPou_cmp (f : Pou → Pou) (s : State) : (s.onPou f).cmp = s.cmp := rfl
@[simp] theorem State.onPou_inp (f : Pou → Pou) (s : State) : (s.onPou f).inp = s.inp := rfl
@[simp] theorem State.onPou_pending (f : Pou → Pou) (s : State) : (s.onPou f).pending = s.pending := rfl
@[simp] theorem State.onPou_drawn (f : Pou → Pou) (s : State) : (s.onPou f).drawn = s.drawn := rfl

@[simp] theorem State.onAut_nv (f : Aut → Aut) (s : State) : (s.onAut f).nv = s.nv := rfl
@[simp] theorem State.onAut_lrs (f : Aut → Aut) (s : State) : (s.onAut f).lrs = s.lrs := rfl
@[simp] theorem State.onAut_pou (f : Aut → Aut) (s : State) : (s.onAut f).pou = s.pou := rfl
@[simp] theorem State.onAut_aut (f : Aut → Aut) (s : State) : (s.onAut f).aut = f s.aut := rfl
@[simp] theorem State.onAut_ssu (f : Aut → Aut) (s : State) : (s.onAut f).ssu = s.ssu := rfl
@[simp] theorem State.onAut_bcu (f : Aut → Aut) (s : State) : (s.onAut f).bcu = s.bcu := rfl
@[simp] theorem State.onAut_dcu (f : Aut → Aut) (s : State) : (s.onAut f).dcu = s.dcu := rfl
@[simp] theorem State.onAut_vru (f : Aut → Aut) (s : State) : (s.onAut f).vru = s.vru := rfl
@[simp] theorem State.onAut_nvc (f : Aut → Aut) (s : State) : (s.onAut f).nvc = s.nvc := rfl
@[simp] theorem State.onAut_ctl (f : Aut → Aut) (s : State) : (s.onAut f).ctl = s.ctl := rfl
@[simp] theorem State.onAut_cmp (f : Aut → Aut) (s : State) : (s.onAut f).cmp = s.cmp := rfl
@[simp] theorem State.onAut_inp (f : Aut → Aut) (s : State) : (s.onAut f).inp = s.inp := rfl
@[simp] theorem State.onAut_pending (f : Aut → Aut) (s : State) : (s.onAut f).pending = s.pending := rfl
@[simp] theorem State.onAut_drawn (f : Aut → Aut) (s : State) : (s.onAut f).drawn = s.drawn := rfl

@[simp] theorem State.onSsu_nv (f : Ssu → Ssu) (s : State) : (s.onSsu f).nv = s.nv := rfl
@[simp] theorem State.onSsu_lrs (f : Ssu → Ssu) (s : State) : (s.onSsu f).lrs = s.lrs := rfl
@[simp] theorem State.onSsu_pou (f : Ssu → Ssu) (s : State) : (s.onSsu f).pou = s.pou := rfl
@[simp] theorem State.onSsu_aut (f : Ssu → Ssu) (s : State) : (s.onSsu f).aut = s.aut := rfl
@[simp] theorem State.onSsu_ssu (f : Ssu → Ssu) (s : State) : (s.onSsu f).ssu = f s.ssu := rfl
@[simp] theorem State.onSsu_bcu (f : Ssu → Ssu) (s : State) : (s.onSsu f).bcu = s.bcu := rfl
@[simp] theorem State.onSsu_dcu (f : Ssu → Ssu) (s : State) : (s.onSsu f).dcu = s.dcu := rfl
@[simp] theorem State.onSsu_vru (f : Ssu → Ssu) (s : State) : (s.onSsu f).vru = s.vru := rfl
@[simp] theorem State.onSsu_nvc (f : Ssu → Ssu) (s : State) : (s.onSsu f).nvc = s.nvc := rfl
@[simp] theorem State.onSsu_ctl (f : Ssu → Ssu) (s : State) : (s.onSsu f).ctl = s.ctl := rfl
@[simp] theorem State.onSsu_cmp (f : Ssu → Ssu) (s : State) : (s.onSsu f).cmp = s.cmp := rfl
@[simp] theorem State.onSsu_inp (f : Ssu → Ssu) (s : State) : (s.onSsu f).inp = s.inp := rfl
@[simp] theorem State.onSsu_pending (f : Ssu → Ssu) (s : State) : (s.onSsu f).pending = s.pending := rfl
@[simp] theorem State.onSsu_drawn (f : Ssu → Ssu) (s : State) : (s.onSsu f).drawn = s.drawn := rfl

@[simp] theorem State.onBcu_nv (f : Bcu → Bcu) (s : State) : (s.onBcu f).nv = s.nv := rfl
@[simp] theorem State.onBcu_lrs (f : Bcu → Bcu) (s : State) : (s.onBcu f).lrs = s.lrs := rfl
@[simp] theorem State.onBcu_pou (f : Bcu → Bcu) (s : State) : (s.onBcu f).pou = s.pou := rfl
@[simp] theorem State.onBcu_aut (f : Bcu → Bcu) (s : State) : (s.onBcu f).aut = s.aut := rfl
@[simp] theorem State.onBcu_ssu (f : Bcu → Bcu) (s : State) : (s.onBcu f).ssu = s.ssu := rfl
@[simp] theorem State.onBcu_bcu (f : Bcu → Bcu) (s : State) : (s.onBcu f).bcu = f s.bcu := rfl
@[simp] theorem State.onBcu_dcu (f : Bcu → Bcu) (s : State) : (s.onBcu f).dcu = s.dcu := rfl
@[simp] theorem State.onBcu_vru (f : Bcu → Bcu) (s : State) : (s.onBcu f).vru = s.vru := rfl
@[simp] theorem State.onBcu_nvc (f : Bcu → Bcu) (s : State) : (s.onBcu f).nvc = s.nvc := rfl
@[simp] theorem State.onBcu_ctl (f : Bcu → Bcu) (s : State) : (s.onBcu f).ctl = s.ctl := rfl
@[simp] theorem State.onBcu_cmp (f : Bcu → Bcu) (s : State) : (s.onBcu f).cmp = s.cmp := rfl
@[simp] theorem State.onBcu_inp (f : Bcu → Bcu) (s : State) : (s.onBcu f).inp = s.inp := rfl
@[simp] theorem State.onBcu_pending (f : Bcu → Bcu) (s : State) : (s.onBcu f).pending = s.pending := rfl
@[simp] theorem State.onBcu_drawn (f : Bcu → Bcu) (s : State) : (s.onBcu f).drawn = s.drawn := rfl

@[simp] theorem State.onDcu_nv (f : Dcu → Dcu) (s : State) : (s.onDcu f).nv = s.nv := rfl
@[simp] theorem State.onDcu_lrs (f : Dcu → Dcu) (s : State) : (s.onDcu f).lrs = s.lrs := rfl
@[simp] theorem State.onDcu_pou (f : Dcu → Dcu) (s : State) : (s.onDcu f).pou = s.pou := rfl
@[simp] theorem State.onDcu_aut (f : Dcu → Dcu) (s : State) : (s.onDcu f).aut = s.aut := rfl
@[simp] theorem State.onDcu_ssu (f : Dcu → Dcu) (s : State) : (s.onDcu f).ssu = s.ssu := rfl
@[simp] theorem State.onDcu_bcu (f : Dcu → Dcu) (s : State) : (s.onDcu f).bcu = s.bcu := rfl
@[simp] theorem State.onDcu_dcu (f : Dcu → Dcu) (s : State) : (s.onDcu f).dcu = f s.dcu := rfl
@[simp] theorem State.onDcu_vru (f : Dcu → Dcu) (s : State) : (s.onDcu f).vru = s.vru := rfl
@[simp] theorem State.onDcu_nvc (f : Dcu → Dcu) (s : State) : (s.onDcu f).nvc = s.nvc := rfl
@[simp] theorem State.onDcu_ctl (f : Dcu → Dcu) (s : State) : (s.onDcu f).ctl = s.ctl := rfl
@[simp] theorem State.onDcu_cmp (f : Dcu → Dcu) (s : State) : (s.onDcu f).cmp = s.cmp := rfl
@[simp] theorem State.onDcu_inp (f : Dcu → Dcu) (s : State) : (s.onDcu f).inp = s.inp := rfl
@[simp] theorem State.onDcu_pending (f : Dcu → Dcu) (s : State) : (s.onDcu f).pending = s.pending := rfl
@[simp] theorem State.onDcu_drawn (f : Dcu → Dcu) (s : State) : (s.onDcu f).drawn = s.drawn := rfl

@[simp] theorem State.onVru_nv (f : Vru → Vru) (s : State) : (s.onVru f).nv = s.nv := rfl
@[simp] theorem State.onVru_lrs (f : Vru → Vru) (s : State) : (s.onVru f).lrs = s.lrs := rfl
@[simp] theorem State.onVru_pou (f : Vru → Vru) (s : State) : (s.onVru f).pou = s.pou := rfl
@[simp] theorem State.onVru_aut (f : Vru → Vru) (s : State) : (s.onVru f).aut = s.aut := rfl
@[simp] theorem State.onVru_ssu (f : Vru → Vru) (s : State) : (s.onVru f).ssu = s.ssu := rfl
@[simp] theorem State.onVru_bcu (f : Vru → Vru) (s : State) : (s.onVru f).bcu = s.bcu := rfl
@[simp] theorem State.onVru_dcu (f : Vru → Vru) (s : State) : (s.onVru f).dcu = s.dcu := rfl
@[simp] theorem State.onVru_vru (f : Vru → Vru) (s : State) : (s.onVru f).vru = f s.vru := rfl
@[simp] theorem State.onVru_nvc (f : Vru → Vru) (s : State) : (s.onVru f).nvc = s.nvc := rfl
@[simp] theorem State.onVru_ctl (f : Vru → Vru) (s : State) : (s.onVru f).ctl = s.ctl := rfl
@[simp] theorem State.onVru_cmp (f : Vru → Vru) (s : State) : (s.onVru f).cmp = s.cmp := rfl
@[simp] theorem State.onVru_inp (f : Vru → Vru) (s : State) : (s.onVru f).inp = s.inp := rfl
@[simp] theorem State.onVru_pending (f : Vru → Vru) (s : State) : (s.onVru f).pending = s.pending := rfl
@[simp] theorem State.onVru_drawn (f : Vru → Vru) (s : State) : (s.onVru f).drawn = s.drawn := rfl

@[simp] theorem State.onNvc_nv (f : Nvc → Nvc) (s : State) : (s.onNvc f).nv = s.nv := rfl
@[simp] theorem State.onNvc_lrs (f : Nvc → Nvc) (s : State) : (s.onNvc f).lrs = s.lrs := rfl
@[simp] theorem State.onNvc_pou (f : Nvc → Nvc) (s : State) : (s.onNvc f).pou = s.pou := rfl
@[simp] theorem State.onNvc_aut (f : Nvc → Nvc) (s : State) : (s.onNvc f).aut = s.aut := rfl
@[simp] theorem State.onNvc_ssu (f : Nvc → Nvc) (s : State) : (s.onNvc f).ssu = s.ssu := rfl
@[simp] theorem State.onNvc_bcu (f : Nvc → Nvc) (s : State) : (s.onNvc f).bcu = s.bcu := rfl
@[simp] theorem State.onNvc_dcu (f : Nvc → Nvc) (s : State) : (s.onNvc f).dcu = s.dcu := rfl
@[simp] theorem State.onNvc_vru (f : Nvc → Nvc) (s : State) : (s.onNvc f).vru = s.vru := rfl
@[simp] theorem State.onNvc_nvc (f : Nvc → Nvc) (s : State) : (s.onNvc f).nvc = f s.nvc := rfl
@[simp] theorem State.onNvc_ctl (f : Nvc → Nvc) (s : State) : (s.onNvc f).ctl = s.ctl := rfl
@[simp] theorem State.onNvc_cmp (f : Nvc → Nvc) (s : State) : (s.onNvc f).cmp = s.cmp := rfl
@[simp] theorem State.onNvc_inp (f : Nvc → Nvc) (s : State) : (s.onNvc f).inp = s.inp := rfl
@[simp] theorem State.onNvc_pending (f : Nvc → Nvc) (s : State) : (s.onNvc f).pending = s.pending := rfl
@[simp] theorem State.onNvc_drawn (f : Nvc → Nvc) (s : State) : (s.onNvc f).drawn = s.drawn := rfl

@[simp] theorem State.onCtl_nv (f : Ctl → Ctl) (s : State) : (s.onCtl f).nv = s.nv := rfl
@[simp] theorem State.onCtl_lrs (f : Ctl → Ctl) (s : State) : (s.onCtl f).lrs = s.lrs := rfl
@[simp] theorem State.onCtl_pou (f : Ctl → Ctl) (s : State) : (s.onCtl f).pou = s.pou := rfl
@[simp] theorem State.onCtl_aut (f : Ctl → Ctl) (s : State) : (s.onCtl f).aut = s.aut := rfl
@[simp] theorem State.onCtl_ssu (f : Ctl → Ctl) (s : State) : (s.onCtl f).ssu = s.ssu := rfl
@[simp] theorem State.onCtl_bcu (f : Ctl → Ctl) (s : State) : (s.onCtl f).bcu = s.bcu := rfl
@[simp] theorem State.onCtl_dcu (f : Ctl → Ctl) (s : State) : (s.onCtl f).dcu = s.dcu := rfl
@[simp] theorem State.onCtl_vru (f : Ctl → Ctl) (s : State) : (s.onCtl f).vru = s.vru := rfl
@[simp] theorem State.onCtl_nvc (f : Ctl → Ctl) (s : State) : (s.onCtl f).nvc = s.nvc := rfl
@[simp] theorem State.onCtl_ctl (f : Ctl → Ctl) (s : State) : (s.onCtl f).ctl = f s.ctl := rfl
@[simp] theorem State.onCtl_cmp (f : Ctl → Ctl) (s : State) : (s.onCtl f).cmp = s.cmp := rfl
@[simp] theorem State.onCtl_inp (f : Ctl → Ctl) (s : State) : (s.onCtl f).inp = s.inp := rfl
@[simp] theorem State.onCtl_pending (f : Ctl → Ctl) (s : State) : (s.onCtl f).pending = s.pending := rfl
@[simp] theorem State.onCtl_drawn (f : Ctl → Ctl) (s : State) : (s.onCtl f).drawn = s.drawn := rfl

@[simp] theorem State.onCmp_nv (f : Cmp → Cmp) (s : State) : (s.onCmp f).nv = s.nv := rfl
@[simp] theorem State.onCmp_lrs (f : Cmp → Cmp) (s : State) : (s.onCmp f).lrs = s.lrs := rfl
@[simp] theorem State.onCmp_pou (f : Cmp → Cmp) (s : State) : (s.onCmp f).pou = s.pou := rfl
@[simp] theorem State.onCmp_aut (f : Cmp → Cmp) (s : State) : (s.onCmp f).aut = s.aut := rfl
@[simp] theorem State.onCmp_ssu (f : Cmp → Cmp) (s : State) : (s.onCmp f).ssu = s.ssu := rfl
@[simp] theorem State.onCmp_bcu (f : Cmp → Cmp) (s : State) : (s.onCmp f).bcu = s.bcu := rfl
@[simp] theorem State.onCmp_dcu (f : Cmp → Cmp) (s : State) : (s.onCmp f).dcu = s.dcu := rfl
@[simp] theorem State.onCmp_vru (f : Cmp → Cmp) (s : State) : (s.onCmp f).vru = s.vru := rfl
@[simp] theorem State.onCmp_nvc (f : Cmp → Cmp) (s : State) : (s.onCmp f).nvc = s.nvc := rfl
@[simp] theorem State.onCmp_ctl (f : Cmp → Cmp) (s : State) : (s.onCmp f).ctl = s.ctl := rfl
@[simp] theorem State.onCmp_cmp (f : Cmp → Cmp) (s : State) : (s.onCmp f).cmp = f s.cmp := rfl
@[simp] theorem State.onCmp_inp (f : Cmp → Cmp) (s : State) : (s.onCmp f).inp = s.inp := rfl
@[simp] theorem State.onCmp_pending (f : Cmp → Cmp) (s : State) : (s.onCmp f).pending = s.pending := rfl
@[simp] theorem State.onCmp_drawn (f : Cmp → Cmp) (s : State) : (s.onCmp f).drawn = s.drawn := rfl

@[simp] theorem State.onInp_nv (f : Inp → Inp) (s : State) : (s.onInp f).nv = s.nv := rfl
@[simp] theorem State.onInp_lrs (f : Inp → Inp) (s : State) : (s.onInp f).lrs = s.lrs := rfl
@[simp] theorem State.onInp_pou (f : Inp → Inp) (s : State) : (s.onInp f).pou = s.pou := rfl
@[simp] theorem State.onInp_aut (f : Inp → Inp) (s : State) : (s.onInp f).aut = s.aut := rfl
@[simp] theorem State.onInp_ssu (f : Inp → Inp) (s : State) : (s.onInp f).ssu = s.ssu := rfl
@[simp] theorem State.onInp_bcu (f : Inp → Inp) (s : State) : (s.onInp f).bcu = s.bcu := rfl
@[simp] theorem State.onInp_dcu (f : Inp → Inp) (s : State) : (s.onInp f).dcu = s.dcu := rfl
@[simp] theorem State.onInp_vru (f : Inp → Inp) (s : State) : (s.onInp f).vru = s.vru := rfl
@[simp] theorem State.onInp_nvc (f : Inp → Inp) (s : State) : (s.onInp f).nvc = s.nvc := rfl
@[simp] theorem State.onInp_ctl (f : Inp → Inp) (s : State) : (s.onInp f).ctl = s.ctl := rfl
@[simp] theorem State.onInp_cmp (f : Inp → Inp) (s : State) : (s.onInp f).cmp = s.cmp := rfl
@[simp] theorem State.onInp_inp (f : Inp → Inp) (s : State) : (s.onInp f).inp = f s.inp := rfl
@[simp] theorem State.onInp_pending (f : Inp → Inp) (s : State) : (s.onInp f).pending = s.pending := rfl
@[simp] theorem State.onInp_drawn (f : Inp → Inp) (s : State) : (s.onInp f).drawn = s.drawn := rfl

@[simp] theorem State.withPending_nv (q : List Instr) (s : State) : (s.withPending q).nv = s.nv := rfl
@[simp] theorem State.withPending_lrs (q : List Instr) (s : State) : (s.withPending q).lrs = s.lrs := rfl
@[simp] theorem State.withPending_pou (q : List Instr) (s : State) : (s.withPending q).pou = s.pou := rfl
@[simp] theorem State.withPending_aut (q : List Instr) (s : State) : (s.withPending q).aut = s.aut := rfl
@[simp] theorem State.withPending_ssu (q : List Instr) (s : State) : (s.withPending q).ssu = s.ssu := rfl
@[simp] theorem State.withPending_bcu (q : List Instr) (s : State) : (s.withPending q).bcu = s.bcu := rfl
@[simp] theorem State.withPending_dcu (q : List Instr) (s : State) : (s.withPending q).dcu = s.dcu := rfl
@[simp] theorem State.withPending_vru (q : List Instr) (s : State) : (s.withPending q).vru = s.vru := rfl
@[simp] theorem State.withPending_nvc (q : List Instr) (s : State) : (s.withPending q).nvc = s.nvc := rfl
@[simp] theorem State.withPending_ctl (q : List Instr) (s : State) : (s.withPending q).ctl = s.ctl := rfl
@[simp] theorem State.withPending_cmp (q : List Instr) (s : State) : (s.withPending q).cmp = s.cmp := rfl
@[simp] theorem State.withPending_inp (q : List Instr) (s : State) : (s.withPending q).inp = s.inp := rfl
@[simp] theorem State.withPending_pending (q : List Instr) (s : State) : (s.withPending q).pending = q := rfl
@[simp] theorem State.withPending_drawn (q : List Instr) (s : State) : (s.withPending q).drawn = s.drawn := rfl
@[simp] theorem State.withDrawn_nv (n : Nat) (s : State) : (s.withDrawn n).nv = s.nv := rfl
@[simp] theorem State.withDrawn_lrs (n : Nat) (s : State) : (s.withDrawn n).lrs = s.lrs := rfl
@[simp] theorem State.withDrawn_pou (n : Nat) (s : State) : (s.withDrawn n).pou = s.pou := rfl
@[simp] theorem State.withDrawn_aut (n : Nat) (s : State) : (s.withDrawn n).aut = s.aut := rfl
@[simp] theorem State.withDrawn_ssu (n : Nat) (s : State) : (s.withDrawn n).ssu = s.ssu := rfl
@[simp] theorem State.withDrawn_bcu (n : Nat) (s : State) : (s.withDrawn n).bcu = s.bcu := rfl
@[simp] theorem State.withDrawn_dcu (n : Nat) (s : State) : (s.withDrawn n).dcu = s.dcu := rfl
@[simp] theorem State.withDrawn_vru (n : Nat) (s : State) : (s.withDrawn n).vru = s.vru := rfl
@[simp] theorem State.withDrawn_nvc (n : Nat) (s : State) : (s.withDrawn n).nvc = s.nvc := rfl
@[simp] theorem State.withDrawn_ctl (n : Nat) (s : State) : (s.withDrawn n).ctl = s.ctl := rfl
@[simp] theorem State.withDrawn_cmp (n : Nat) (s : State) : (s.withDrawn n).cmp = s.cmp := rfl
@[simp] theorem State.withDrawn_inp (n : Nat) (s : State) : (s.withDrawn n).inp = s.inp := rfl
@[simp] theorem State.withDrawn_pending (n : Nat) (s : State) : (s.withDrawn n).pending = s.pending := rfl
@[simp] theorem State.withDrawn_drawn (n : Nat) (s : State) : (s.withDrawn n).drawn = n := rfl

/-! Two updates of one block are one update of it. -/

@[simp] theorem State.onNv_onNv (f g : Nv → Nv) (s : State) :
    (s.onNv f).onNv g = s.onNv (fun x => g (f x)) := rfl

@[simp] theorem State.onLrs_onLrs (f g : Lrs → Lrs) (s : State) :
    (s.onLrs f).onLrs g = s.onLrs (fun x => g (f x)) := rfl

@[simp] theorem State.onPou_onPou (f g : Pou → Pou) (s : State) :
    (s.onPou f).onPou g = s.onPou (fun x => g (f x)) := rfl

@[simp] theorem State.onAut_onAut (f g : Aut → Aut) (s : State) :
    (s.onAut f).onAut g = s.onAut (fun x => g (f x)) := rfl

@[simp] theorem State.onSsu_onSsu (f g : Ssu → Ssu) (s : State) :
    (s.onSsu f).onSsu g = s.onSsu (fun x => g (f x)) := rfl

@[simp] theorem State.onBcu_onBcu (f g : Bcu → Bcu) (s : State) :
    (s.onBcu f).onBcu g = s.onBcu (fun x => g (f x)) := rfl

@[simp] theorem State.onDcu_onDcu (f g : Dcu → Dcu) (s : State) :
    (s.onDcu f).onDcu g = s.onDcu (fun x => g (f x)) := rfl

@[simp] theorem State.onVru_onVru (f g : Vru → Vru) (s : State) :
    (s.onVru f).onVru g = s.onVru (fun x => g (f x)) := rfl

@[simp] theorem State.onNvc_onNvc (f g : Nvc → Nvc) (s : State) :
    (s.onNvc f).onNvc g = s.onNvc (fun x => g (f x)) := rfl

@[simp] theorem State.onCtl_onCtl (f g : Ctl → Ctl) (s : State) :
    (s.onCtl f).onCtl g = s.onCtl (fun x => g (f x)) := rfl

@[simp] theorem State.onCmp_onCmp (f g : Cmp → Cmp) (s : State) :
    (s.onCmp f).onCmp g = s.onCmp (fun x => g (f x)) := rfl

@[simp] theorem State.onInp_onInp (f g : Inp → Inp) (s : State) :
    (s.onInp f).onInp g = s.onInp (fun x => g (f x)) := rfl

end Sys2Proof.Machine
end

