-- ==== Sys2Proof/Laws/Keeps.lean ====
section
/-! SUPPORT. The frame of each shared operation, said once: which blocks it may change. A frame of a command is put together from
these. -/

namespace Sys2Proof.Machine

/-! ## Putting frames together -/

theorem Keeps.refl (l : List Block) (s : State) : Keeps l s s := by
  intro b _
  cases b <;> simp [Block.same]

theorem Block.same_trans {b : Block} {s t u : State} (h : b.same s t) (k : b.same t u) : b.same s u := by
  cases b <;> simp_all [Block.same]

theorem Keeps.trans {l : List Block} {s t u : State} (h : Keeps l s t) (k : Keeps l t u) : Keeps l s u :=
  fun b hb => Block.same_trans (h b hb) (k b hb)

/-- A frame may be stated more widely. -/
theorem Keeps.mono {l m : List Block} {s t : State} (h : Keeps l s t) (hm : ∀ b ∈ l, b ∈ m := by decide) : Keeps m s t :=
  fun b hb => h b (fun k => hb (hm b k))

/-- Two frames one after the other, in one that contains both. -/
theorem Keeps.andThen {l m n : List Block} {s t u : State} (h : Keeps l s t) (k : Keeps m t u)
    (hl : ∀ b ∈ l, b ∈ n := by decide) (hm : ∀ b ∈ m, b ∈ n := by decide) : Keeps n s u :=
  (h.mono hl).trans (k.mono hm)

/-- A frame goes on over a further operation whose blocks it names. -/
theorem Keeps.after {l m : List Block} {s t u : State} (k : Keeps m t u) (h : Keeps l s t)
    (hm : ∀ b ∈ m, b ∈ l := by decide) : Keeps l s u :=
  h.trans (k.mono hm)

theorem Keeps.ite {l : List Block} {s t u : State} {c : Prop} [Decidable c] (h : Keeps l s t) (k : Keeps l s u) :
    Keeps l s (if c then t else u) := by
  split <;> assumption

/-! ## One block -/

theorem onNv_keeps (f : Nv → Nv) (s : State) : Keeps [.nv] s (s.onNv f) := by
  intro b hb; cases b <;> simp_all [Block.same]

theorem onLrs_keeps (f : Lrs → Lrs) (s : State) : Keeps [.lrs] s (s.onLrs f) := by
  intro b hb; cases b <;> simp_all [Block.same]

theorem onPou_keeps (f : Pou → Pou) (s : State) : Keeps [.pou, .rollback] s (s.onPou f) := by
  intro b hb; cases b <;> simp_all [Block.same]

/-- An update of the POU that leaves the rollback accumulator alone. -/
theorem onPou_keeps_rollback {f : Pou → Pou} (s : State)
    (h : (f s.pou).rollback = s.pou.rollback ∧ (f s.pou).rollbackReported = s.pou.rollbackReported) :
    Keeps [.pou] s (s.onPou f) := by
  intro b hb; cases b <;> simp_all [Block.same]

/-- An update of the rollback accumulator alone. -/
theorem onPou_keeps_pou {f : Pou → Pou} (s : State) (h : (f s.pou).zeroRollback = s.pou.zeroRollback) :
    Keeps [.rollback] s (s.onPou f) := by
  intro b hb; cases b <;> simp_all [Block.same]

theorem onAut_keeps (f : Aut → Aut) (s : State) : Keeps [.aut] s (s.onAut f) := by
  intro b hb; cases b <;> simp_all [Block.same]

theorem onSsu_keeps (f : Ssu → Ssu) (s : State) : Keeps [.ssu] s (s.onSsu f) := by
  intro b hb; cases b <;> simp_all [Block.same]

theorem onBcu_keeps (f : Bcu → Bcu) (s : State) : Keeps [.bcu] s (s.onBcu f) := by
  intro b hb; cases b <;> simp_all [Block.same]

theorem onDcu_keeps (f : Dcu → Dcu) (s : State) : Keeps [.dcu] s (s.onDcu f) := by
  intro b hb; cases b <;> simp_all [Block.same]

theorem onVru_keeps (f : Vru → Vru) (s : State) : Keeps [.radio, .transmitter] s (s.onVru f) := by
  intro b hb; cases b <;> simp_all [Block.same]

/-- An update of the transmitter alone. -/
theorem onVru_keeps_radio {f : Vru → Vru} (s : State) (h : (f s.vru).lessTransmitter = s.vru.lessTransmitter) :
    Keeps [.transmitter] s (s.onVru f) := by
  intro b hb; cases b <;> simp_all [Block.same]

theorem onNvc_keeps (f : Nvc → Nvc) (s : State) : Keeps [.nvc] s (s.onNvc f) := by
  intro b hb; cases b <;> simp_all [Block.same]

theorem onCtl_keeps (f : Ctl → Ctl) (s : State) : Keeps [.ctl] s (s.onCtl f) := by
  intro b hb; cases b <;> simp_all [Block.same]

theorem onCmp_keeps (f : Cmp → Cmp) (s : State) : Keeps [.port, .causes] s (s.onCmp f) := by
  intro b hb; cases b <;> simp_all [Block.same]

/-- An update of the Command Port that leaves the cause set alone. -/
theorem onCmp_keeps_causes {f : Cmp → Cmp} (s : State)
    (h : (f s.cmp).causes = s.cmp.causes ∧ (f s.cmp).mask = s.cmp.mask ∧ (f s.cmp).attn = s.cmp.attn) :
    Keeps [.port] s (s.onCmp f) := by
  intro b hb; cases b <;> simp_all [Block.same]

theorem onInp_keeps (f : Inp → Inp) (s : State) : Keeps [.inp] s (s.onInp f) := by
  intro b hb; cases b <;> simp_all [Block.same]

/-! ## Causes -/

theorem latch_keeps (c : Cause) (s : State) : Keeps [.causes] s (latch c s) := by
  intro b hb; cases b <;> simp_all [Block.same, latch, Cmp.setCauses, Cmp.lessCauses]

theorem latchIf_keeps (p : Bool) (c : Cause) (s : State) : Keeps [.causes] s (latchIf p c s) := by
  unfold latchIf; exact Keeps.ite (latch_keeps c s) (Keeps.refl _ s)

theorem clearCauses_keeps (m : BitVec 17) (s : State) : Keeps [.causes] s (clearCauses m s) := by
  intro b hb; cases b <;> simp_all [Block.same, clearCauses, Cmp.setCauses, Cmp.lessCauses]

theorem setCauseMask_keeps (m : BitVec 17) (s : State) : Keeps [.causes] s (setCauseMask m s) := by
  intro b hb; cases b <;> simp_all [Block.same, setCauseMask, Cmp.setCauses, Cmp.lessCauses]

/-! ## Doors and brakes -/

theorem refreshDoors_keeps (s : State) : Keeps [.dcu, .causes] s (refreshDoors s) :=
  (onDcu_keeps _ s).andThen (latchIf_keeps _ _ _)

theorem relockReleased_keeps (s : State) : Keeps [.dcu, .causes] s (relockReleased s) :=
  (onDcu_keeps _ s).andThen (refreshDoors_keeps _)

theorem zeroRollback_keeps (s : State) : Keeps [.rollback] s (s.onPou Pou.zeroRollback) :=
  onPou_keeps_pou s rfl

theorem handHolding_keeps (b : Bool) (s : State) : Keeps [.dcu, .causes, .rollback] s (handHolding b s) := by
  unfold handHolding
  split
  · exact (relockReleased_keeps s).mono
  · exact Keeps.ite ((zeroRollback_keeps s).mono) (Keeps.refl _ s)

theorem evalPass_keeps (s : State) : Keeps evalBlocks s (evalPass s) :=
  (onBcu_keeps _ s).andThen (handHolding_keeps _ _)

theorem evalOnce_keeps (s : State) : Keeps evalBlocks s (evalOnce s) :=
  Keeps.ite (evalPass_keeps s) ((evalPass_keeps s).trans (evalPass_keeps _))

theorem setWbFault_keeps (s : State) : Keeps [.bcu, .causes] s (setWbFault s) :=
  (onBcu_keeps _ s).andThen (latch_keeps _ _)

theorem endStep_keeps (n : Nat) (o : TestOutcome) (r : TestReason) (st : TestState) (s : State) :
    Keeps [.bcu, .causes] s (endStep n o r st s) :=
  (onBcu_keeps _ s).andThen (latch_keeps _ _)

theorem failStep_keeps (n : Nat) (r : TestReason) (s : State) : Keeps [.bcu, .causes] s (failStep n r s) :=
  (onBcu_keeps _ s).andThen (endStep_keeps _ _ _ _ _)

theorem abortTest_keeps (r : TestReason) (s : State) : Keeps [.bcu, .causes] s (abortTest r s) := by
  unfold abortTest
  split
  · exact Keeps.refl _ s
  · exact (onBcu_keeps _ s).andThen (endStep_keeps _ _ _ _ _)

theorem progress1_keeps (s : State) : Keeps [.bcu, .causes] s (progress1 s) :=
  Keeps.ite (endStep_keeps _ _ _ _ s) (Keeps.refl _ s)

theorem progressCycle_keeps (n : Nat) (p : Band) (st : TestState) (s : State) :
    Keeps [.bcu, .causes] s (progressCycle n p st s) :=
  Keeps.ite (failStep_keeps _ _ s)
    (Keeps.ite ((setWbFault_keeps s).andThen (failStep_keeps _ _ _))
      (Keeps.ite ((onBcu_keeps _ s).mono) (Keeps.ite (endStep_keeps _ _ _ _ s) (Keeps.refl _ s))))

theorem progress4_keeps (s : State) : Keeps [.bcu, .causes] s (progress4 s) :=
  Keeps.ite (failStep_keeps _ _ s)
    (Keeps.ite (failStep_keeps _ _ s)
      (Keeps.ite ((onBcu_keeps _ s).mono)
        (Keeps.ite ((onBcu_keeps _ s).andThen (endStep_keeps _ _ _ _ _)) (Keeps.refl _ s))))

theorem testProgress_keeps (s : State) : Keeps [.bcu, .causes] s (testProgress s) := by
  unfold testProgress
  split
  · exact progress1_keeps s
  · exact progressCycle_keeps _ _ _ s
  · exact progressCycle_keeps _ _ _ s
  · exact progress4_keeps s
  all_goals exact Keeps.refl _ s

theorem bcuEval_keeps (s : State) : Keeps evalBlocks s (bcuEval s) :=
  ((evalOnce_keeps s).andThen (testProgress_keeps _)).trans (evalOnce_keeps _)

theorem doorsSettled_keeps (s : State) : Keeps evalBlocks s (doorsSettled s) :=
  Keeps.ite ((refreshDoors_keeps s).mono)
    (Keeps.ite ((refreshDoors_keeps s).andThen (bcuEval_keeps _))
      (((refreshDoors_keeps s).andThen (abortTest_keeps _ _)).trans (bcuEval_keeps _)))

theorem withdrawSide_keeps (x : Side) (s : State) : Keeps evalBlocks s (withdrawSide x s) :=
  (onDcu_keeps _ s).andThen (doorsSettled_keeps _)

theorem withdrawBoth_keeps (s : State) : Keeps evalBlocks s (withdrawBoth s) :=
  (onDcu_keeps _ s).andThen (doorsSettled_keeps _)

/-! ## The transmitter -/

theorem queueReport_lessTransmitter (o : Occasion) (ps : Option Byte) (v : Vru) :
    (v.queueReport o ps).lessTransmitter = v.lessTransmitter := by
  unfold Vru.queueReport; split
  · rfl
  · split <;> rfl

theorem queueAnswer_lessTransmitter (a : LastTaken) (v : Vru) :
    (v.queueAnswer a).lessTransmitter = v.lessTransmitter := by
  unfold Vru.queueAnswer; split <;> rfl

theorem startBurst_lessTransmitter (v : Vru) : v.startBurst.lessTransmitter = v.lessTransmitter := by
  unfold Vru.startBurst
  split
  · have h := queueReport_lessTransmitter .tripBurst none v
    simpa [Vru.lessTransmitter] using h
  · rfl

theorem kickTransmit_keeps (s : State) : Keeps [.transmitter] s (kickTransmit s) := by
  unfold kickTransmit
  split
  · exact onVru_keeps_radio s rfl
  · exact Keeps.refl _ s

/-! ## Trip and recomputation -/

theorem addCause_keeps (c : TripCause) (s : State) : Keeps [.ssu] s (addCause c s) := onSsu_keeps _ s

theorem enterTrip_keeps (c : TripCause) (s : State) : Keeps tripBlocks s (enterTrip c s) :=
  .after (onVru_keeps_radio _ (startBurst_lessTransmitter _)) (.after (withdrawBoth_keeps _) (.after (bcuEval_keeps _)
    (.after (onBcu_keeps _ _) (.after (abortTest_keeps _ _) (.after (latch_keeps _ _) ((onSsu_keeps _ s).mono))))))

theorem tripCause_keeps (c : TripCause) (s : State) : Keeps tripBlocks s (tripCause c s) :=
  Keeps.ite ((addCause_keeps c s).mono) (enterTrip_keeps c s)

theorem tripIf_keeps (p : Bool) (c : TripCause) (s : State) : Keeps tripBlocks s (tripIf p c s) :=
  Keeps.ite (tripCause_keeps c s) (Keeps.refl _ s)

theorem addTripCauses_keeps (s : State) : Keeps [.ssu] s (addTripCauses s) :=
  Keeps.ite (addCause_keeps _ s) (Keeps.ite (addCause_keeps _ s) (Keeps.refl _ s))

theorem setSupState_keeps (st : SupState) (s : State) : Keeps [.ssu, .causes] s (setSupState st s) := by
  unfold setSupState
  split
  · exact (onSsu_keeps _ s).mono
  · exact (onSsu_keeps _ s).andThen (latch_keeps _ _)

theorem computeSpeed_keeps (s : State) : Keeps [.ssu] s (computeSpeed s) := onSsu_keeps _ s

theorem superviseSpeed_keeps (n : Nat) (s : State) : Keeps tripBlocks s (superviseSpeed n s) := by
  unfold superviseSpeed
  split
  · exact Keeps.ite ((addTripCauses_keeps s).mono) ((addTripCauses_keeps s).andThen (bcuEval_keeps _))
  · split
    · exact enterTrip_keeps _ s
    · exact Keeps.ite (Keeps.refl _ s) ((setSupState_keeps _ s).andThen (bcuEval_keeps _))

theorem recompute_keeps (s : State) : Keeps tripBlocks s (recompute s) :=
  (computeSpeed_keeps s).andThen (superviseSpeed_keeps _ _)

theorem bandFault_keeps (p : Band) (r : TestReason) (s : State) : Keeps tripBlocks s (bandFault p r s) := by
  refine .after (bcuEval_keeps _) (.after (tripIf_keeps _ _ _) ?_)
  have h : ∀ f : Bcu → Bcu, Keeps tripBlocks s (latch .brakeFault (s.onBcu f)) :=
    fun f => .after (latch_keeps _ _) ((onBcu_keeps _ s).mono)
  split
  · exact .after (onBcu_keeps _ _) (h _)
  · exact .after (failStep_keeps _ _ _) (h _)

theorem settleEb_keeps (s : State) : Keeps tripBlocks s (settleEb s) :=
  Keeps.ite (Keeps.refl _ s)
    (.after (bcuEval_keeps _) (.after (recompute_keeps _) (.after (latchIf_keeps _ _ _) ((onBcu_keeps _ s).mono))))

theorem degradeStep5_keeps (s : State) : Keeps tripBlocks s (degradeStep5 s) :=
  .after (bcuEval_keeps _) (.after (settleEb_keeps _) (.after (endStep_keeps _ _ _ _ _) ((onBcu_keeps _ s).mono)))

/-! ## Authority, link, mode, tables -/

theorem chainChanged_keeps (c : List Authority) (s : State) : Keeps (.aut :: tripBlocks) s (chainChanged c s) :=
  .after (recompute_keeps _) (.after (latch_keeps _ _) ((onAut_keeps _ s).mono))

theorem cutBack_keeps (s : State) : Keeps [.aut, .causes] s (cutBack s) :=
  (onAut_keeps _ s).andThen (latchIf_keeps _ _ _)

/-- What a change of link state may change (R167, R71). -/
theorem changeLink_keeps (l : LinkState) (s : State) :
    Keeps ([.radio, .aut] ++ tripBlocks) s (changeLink l s) := by
  have h : Keeps ([.radio, .aut] ++ tripBlocks) s (latch .linkChange (s.onVru (fun v => v.linkTo l))) :=
    .after (latch_keeps _ _) ((onVru_keeps _ s).mono)
  refine Keeps.ite (Keeps.refl _ s) (.after (recompute_keeps _) ?_)
  exact Keeps.ite (.after (cutBack_keeps _) h) h

theorem judgeLink_keeps (s : State) : Keeps ([.radio, .aut] ++ tripBlocks) s (judgeLink s) := by
  unfold judgeLink
  have h : Keeps ([.radio, .aut] ++ tripBlocks) s
      (if s.vru.link = .up && 4000 ≤ s.vru.silence then changeLink .silent s else s) :=
    Keeps.ite (changeLink_keeps _ s) (Keeps.refl _ s)
  exact h.trans (Keeps.ite (changeLink_keeps _ _) (Keeps.refl _ _))

theorem transceiverOn_keeps (z : Bool) (s : State) : Keeps ([.radio, .aut] ++ tripBlocks) s (transceiverOn z s) :=
  .after (judgeLink_keeps _) (.after (changeLink_keeps _ _) ((onVru_keeps _ s).mono))

theorem changeMode_keeps (m : Mode) (s : State) : Keeps ([.ctl, .nvc] ++ tripBlocks) s (changeMode m s) := by
  have h1 : Keeps ([.ctl, .nvc] ++ tripBlocks) s (abortTest .abortMode
      ((s.onCtl (fun c => { c with mode := m })).onBcu (fun b => { b with driveReq := false }))) :=
    .after (abortTest_keeps _ _) (.after (onBcu_keeps _ _) ((onCtl_keeps _ s).mono))
  have h2 := Keeps.ite (c := s.ctl.mode = .service || s.ctl.mode = .depot) (.after (withdrawBoth_keeps _) h1) h1
  refine .after (bcuEval_keeps _) (.after (recompute_keeps _) ?_)
  exact Keeps.ite (.after (onNvc_keeps _ _) h2) h2

theorem leaveClosed_keeps (t : Table) (s : State) : Keeps (.lrs :: tripBlocks) s (leaveClosed t s) := by
  unfold leaveClosed
  split
  · exact .after (recompute_keeps _) (.after (latchIf_keeps _ _ _) ((onLrs_keeps _ s).mono))
  · exact .after (recompute_keeps _) (.after (onLrs_keeps _ _) (.after (latchIf_keeps _ _ _) ((latchIf_keeps _ _ s).mono)))
  · exact (recompute_keeps s).mono

/-! ## Position -/

theorem countPulse_keeps (p : Bool) (d : Nat) (s : State) : Keeps [.pou, .rollback] s (countPulse p d s) :=
  onPou_keeps _ s

theorem reportRollback_keeps (s : State) : Keeps tripBlocks s (reportRollback s) :=
  Keeps.ite ((onPou_keeps_pou s rfl).andThen (tripCause_keeps _ _)) (Keeps.refl _ s)

theorem endStandstill_keeps (s : State) : Keeps (.pou :: evalBlocks) s (endStandstill s) := by
  have h : Keeps (.pou :: evalBlocks) s (s.onPou (fun p => { p with sincePulse := 0, standstill := false })) :=
    (onPou_keeps _ s).mono
  exact Keeps.ite (.after (withdrawBoth_keeps _) (.after (bcuEval_keeps _) (.after (abortTest_keeps _ _) h))) h

theorem countWheel_keeps (d : Nat) (s : State) : Keeps (.pou :: tripBlocks) s (countWheel d s) := by
  have h : Keeps (.pou :: tripBlocks) s (countPulse false d s) := (countPulse_keeps false d s).mono
  simp only [countWheel]
  split
  · exact .after (reportRollback_keeps _) (.after (tripIf_keeps _ _ _) (.after (onPou_keeps _ _) h))
  · exact .after (reportRollback_keeps _) h
  · exact .after (reportRollback_keeps _) h

theorem markerFix_keeps (m : Nat) (s : State) : Keeps [.pou, .rollback, .causes] s (markerFix m s) :=
  (onPou_keeps _ s).andThen (latch_keeps _ _)

theorem entryFix_keeps (a : Nat) (d : Direction) (s : State) : Keeps [.pou, .rollback, .causes] s (entryFix a d s) :=
  (onPou_keeps _ s).andThen (latch_keeps _ _)

theorem engage_keeps (k : SeekKind) (s : State) : Keeps [.pou, .rollback, .causes] s (engage k s) := by
  have h : ∀ f : Pou → Pou, Keeps [.pou, .rollback, .causes] s (s.onPou f) := fun f => (onPou_keeps f s).mono
  cases k with
  | entry a r d => exact .after (entryFix_keeps _ _ _) (h _)
  | onRack => exact h _

theorem pinionSilent_keeps (d : Nat) (s : State) : Keeps (.pou :: tripBlocks) s (pinionSilent d s) :=
  Keeps.ite (.after (countWheel_keeps _ _) (.after (tripCause_keeps _ _) ((onPou_keeps _ s).mono)))
    (.after (countWheel_keeps _ _) ((onPou_keeps _ s).mono))

theorem wheelWhileEngaged_keeps (d : Nat) (s : State) : Keeps (.pou :: tripBlocks) s (wheelWhileEngaged d s) :=
  Keeps.ite ((onPou_keeps_rollback s ⟨rfl, rfl⟩).mono) (pinionSilent_keeps _ s)

theorem checkLost_keeps (s : State) : Keeps [.pou, .causes] s (checkLost s) :=
  Keeps.ite ((onPou_keeps_rollback s ⟨rfl, rfl⟩).andThen (latch_keeps _ _)) (Keeps.refl _ s)

theorem engageStep_keeps (s : State) : Keeps (.pou :: tripBlocks) s (engageStep s) := by
  unfold engageStep
  split
  · exact (onPou_keeps_rollback s ⟨rfl, rfl⟩).mono
  · split
    · split
      · exact Keeps.refl _ s
      · exact (onPou_keeps_rollback s ⟨rfl, rfl⟩).mono
    · split
      · exact (onPou_keeps_rollback s ⟨rfl, rfl⟩).mono
      · exact Keeps.ite ((onPou_keeps_rollback s ⟨rfl, rfl⟩).andThen (tripCause_keeps _ _)) (Keeps.refl _ s)
    · exact Keeps.refl _ s

theorem publish_keeps (s : State) : Keeps (.pou :: tripBlocks) s (publish s) :=
  .after (onPou_keeps _ _) (.after (engageStep_keeps _) (.after (checkLost_keeps _) ((onPou_keeps _ s).mono)))

theorem authorityUpdate_keeps (s : State) : Keeps (.aut :: tripBlocks) s (authorityUpdate s) :=
  Keeps.ite ((onAut_keeps _ s).mono) (chainChanged_keeps _ s)

theorem shadowUpdate_keeps (s : State) : Keeps ([.radio, .aut] ++ tripBlocks) s (shadowUpdate s) := by
  have h : Keeps [.radio] s (s.onVru (fun v => { v with shadow := s.shadowNow })) := by
    intro b hb; cases b <;> simp_all [Block.same]
  exact h.andThen (judgeLink_keeps _)

theorem actOnUpdate_keeps (s : State) : Keeps ([.radio, .aut] ++ tripBlocks) s (actOnUpdate s) :=
  .after (bcuEval_keeps _) (.after (recompute_keeps _) (.after (shadowUpdate_keeps _) ((authorityUpdate_keeps s).mono)))

/-! ## Requests -/

/-- A request changes the port, and what its owner changes. -/
theorem takeRequest_keeps {l : List Block} {owner : State → Owned} (h : ∀ s, Keeps l s (owner s).2) (code : Byte) (st : Bool)
    (s : State) : Keeps (.port :: l) s (takeRequest code st owner s) := by
  have hp : ∀ u : State, ∀ r : Owned, Keeps [.port] u (u.onCmp (fun p =>
      { p with inProgress := some { code := code, answer := r.1, timer := 2 } })) :=
    fun u r => onCmp_keeps_causes u ⟨rfl, rfl, rfl⟩
  have hd : Keeps (.port :: l) s (s.onCmp Cmp.dropWaiting) :=
    (onCmp_keeps_causes s ⟨rfl, rfl, rfl⟩).mono (by simp)
  have hl : ∀ b ∈ l, b ∈ Block.port :: l := fun b hb => List.mem_cons_of_mem _ hb
  unfold takeRequest
  split
  · exact Keeps.refl _ s
  · simp only
    split
    · exact hd.trans ((hp _ _).mono (by simp))
    · exact (hd.trans ((h _).mono hl)).trans ((hp _ _).mono (by simp))

/-- The frame of a command that ends in `finish`. -/
theorem finish_keeps {l : List Block} {s u t : State} (h : Keeps l s u) (ht : finish u = .next t) :
    Keeps (.transmitter :: l) s t := by
  injection ht with ht
  subst ht
  exact (h.mono (fun b hb => List.mem_cons_of_mem _ hb)).trans ((kickTransmit_keeps u).mono (by simp))

/-! ## What a frame says -/

theorem Keeps.pending {l : List Block} {s t : State} (h : Keeps l s t) (hl : Block.queue ∉ l := by decide) :
    t.pending = s.pending := h .queue hl

theorem Keeps.drawn {l : List Block} {s t : State} (h : Keeps l s t) (hl : Block.draws ∉ l := by decide) :
    t.drawn = s.drawn := h .draws hl

theorem Keeps.nv {l : List Block} {s t : State} (h : Keeps l s t) (hl : Block.nv ∉ l := by decide) : t.nv = s.nv := h .nv hl

theorem Keeps.lrs {l : List Block} {s t : State} (h : Keeps l s t) (hl : Block.lrs ∉ l := by decide) : t.lrs = s.lrs :=
  h .lrs hl

theorem Keeps.aut {l : List Block} {s t : State} (h : Keeps l s t) (hl : Block.aut ∉ l := by decide) : t.aut = s.aut :=
  h .aut hl

theorem Keeps.ssu {l : List Block} {s t : State} (h : Keeps l s t) (hl : Block.ssu ∉ l := by decide) : t.ssu = s.ssu :=
  h .ssu hl

theorem Keeps.bcu {l : List Block} {s t : State} (h : Keeps l s t) (hl : Block.bcu ∉ l := by decide) : t.bcu = s.bcu :=
  h .bcu hl

theorem Keeps.dcu {l : List Block} {s t : State} (h : Keeps l s t) (hl : Block.dcu ∉ l := by decide) : t.dcu = s.dcu :=
  h .dcu hl

theorem Keeps.nvc {l : List Block} {s t : State} (h : Keeps l s t) (hl : Block.nvc ∉ l := by decide) : t.nvc = s.nvc :=
  h .nvc hl

theorem Keeps.ctl {l : List Block} {s t : State} (h : Keeps l s t) (hl : Block.ctl ∉ l := by decide) : t.ctl = s.ctl :=
  h .ctl hl

theorem Keeps.inp {l : List Block} {s t : State} (h : Keeps l s t) (hl : Block.inp ∉ l := by decide) : t.inp = s.inp :=
  h .inp hl

end Sys2Proof.Machine
end

