-- ==== Sys2Proof/Laws/Frames.lean ====
section
/-! SUPPORT. The frames of the operations that the meanings of single commands are made of. -/

namespace Sys2Proof.Machine

/-! ## Doors -/

theorem onLeaf_keeps (l : Leaf) (f : LeafRec → LeafRec) (s : State) : Keeps [.dcu] s (s.onLeaf l f) := onDcu_keeps _ s

theorem onLeafLevels_keeps (l : Leaf) (f : LeafLevels → LeafLevels) (s : State) :
    Keeps [.inp] s (s.onLeafLevels l f) := onInp_keeps _ s

theorem moveLeaf_keeps (l : Leaf) (f : LeafRec → LeafRec) (s : State) : Keeps evalBlocks s (moveLeaf l f s) :=
  .after (doorsSettled_keeps _) ((onLeaf_keeps l f s).mono)

theorem faultLeaf_keeps (l : Leaf) (s : State) : Keeps evalBlocks s (faultLeaf l s) :=
  .after (doorsSettled_keeps _) (.after (latch_keeps _ _) ((onLeaf_keeps _ _ s).mono))

theorem loseWatch_keeps (l : Leaf) (s : State) : Keeps tripBlocks s (loseWatch l s) :=
  .after (tripIf_keeps _ _ _) ((faultLeaf_keeps l s).mono)

theorem closedLost_keeps (l : Leaf) (s : State) : Keeps tripBlocks s (closedLost l s) := by
  unfold closedLost
  split
  · exact loseWatch_keeps l s
  · exact loseWatch_keeps l s
  · exact (faultLeaf_keeps l s).mono
  · exact (faultLeaf_keeps l s).mono
  all_goals exact Keeps.refl _ s

theorem lockMade_keeps (l : Leaf) (s : State) : Keeps evalBlocks s (lockMade l s) := by
  unfold lockMade
  split
  · exact moveLeaf_keeps _ _ s
  · exact (onLeaf_keeps _ _ s).mono
  all_goals exact Keeps.refl _ s

theorem lockLost_keeps (l : Leaf) (s : State) : Keeps tripBlocks s (lockLost l s) := by
  unfold lockLost
  split
  · exact loseWatch_keeps l s
  · exact Keeps.ite (loseWatch_keeps l s) (Keeps.refl _ s)
  all_goals exact Keeps.refl _ s

theorem confirmObstruction_keeps (l : Leaf) (k : Candidate) (n : Nat) (s : State) :
    Keeps evalBlocks s (confirmObstruction l k n s) :=
  .after (doorsSettled_keeps _) (.after (latchIf_keeps _ _ _) (.after (latch_keeps _ _) ((onLeaf_keeps _ _ s).mono)))

theorem takeSample_keeps (l : Leaf) (c n : Nat) (s : State) : Keeps evalBlocks s (takeSample l c n s) := by
  unfold takeSample
  split
  · exact Keeps.ite ((onLeaf_keeps _ _ s).mono) (Keeps.refl _ s)
  · exact Keeps.ite (confirmObstruction_keeps _ _ _ s) ((onLeaf_keeps _ _ s).mono)

/-! ## Brakes -/

theorem faultBand_keeps (p : Band) (b : FaultBy) (s : State) : Keeps tripBlocks s (faultBand p b s) := bandFault_keeps _ _ s

theorem bandSwitched_keeps (p : Band) (s : State) : Keeps tripBlocks s (bandSwitched p s) :=
  Keeps.ite (faultBand_keeps _ _ s) ((bcuEval_keeps s).mono)

theorem followTimeout_keeps (s : State) : Keeps evalBlocks s (followTimeout s) := by
  have h : Keeps evalBlocks s (setWbFault (s.onBcu (fun b => { b with followTimer := none }))) :=
    .after (setWbFault_keeps _) ((onBcu_keeps _ s).mono)
  exact .after (bcuEval_keeps _) (Keeps.ite (.after (failStep_keeps _ _ _) h) h)

theorem step1Fails_keeps (s : State) : Keeps evalBlocks s (step1Fails s) := by
  have h : Keeps evalBlocks s (if wbTestHolds s.inp.pressure then s else setWbFault s) :=
    Keeps.ite (Keeps.refl _ s) ((setWbFault_keeps s).mono)
  simp only [step1Fails]
  refine .after (bcuEval_keeps _) ?_
  split
  · exact .after (failStep_keeps _ _ _) h
  · exact Keeps.ite (.after (progress1_keeps _) h) (.after (failStep_keeps _ _ _) h)

theorem step5Passes_keeps (s : State) : Keeps tripBlocks s (step5Passes s) :=
  .after (bcuEval_keeps _) (.after (settleEb_keeps _) (.after (endStep_keeps _ _ _ _ _) ((onBcu_keeps _ s).mono)))

theorem startStep_keeps (n : Nat) (s : State) : Keeps tripBlocks s (startStep n s) := by
  unfold startStep
  split
  · exact .after (bcuEval_keeps _) ((onBcu_keeps _ s).mono)
  · exact .after (bcuEval_keeps _) ((onBcu_keeps _ s).mono)
  · exact .after (bcuEval_keeps _) ((onBcu_keeps _ s).mono)
  · exact .after (bcuEval_keeps _) ((onBcu_keeps _ s).mono)
  · exact Keeps.ite (.after (bcuEval_keeps _) ((onBcu_keeps _ s).mono))
      (.after (degradeStep5_keeps _) ((onBcu_keeps _ s).mono))

theorem setDrive_keeps (b : Bool) (s : State) : Keeps evalBlocks s (setDrive b s) :=
  .after (bcuEval_keeps _) ((onBcu_keeps _ s).mono)

/-! ## Position -/

theorem wheelPulse_keeps (d : Direction) (s : State) : Keeps (.pou :: tripBlocks) s (wheelPulse d s) := by
  have h : Keeps (.pou :: tripBlocks) s (endStandstill (s.onPou (fun p => { p with lastDir := d }))) :=
    .after (endStandstill_keeps _) ((onPou_keeps _ s).mono)
  exact Keeps.ite (.after (wheelWhileEngaged_keeps _ _) h) (.after (countWheel_keeps _ _) h)

theorem pinionPulse_keeps (s : State) : Keeps (.pou :: tripBlocks) s (pinionPulse s) := by
  have h : Keeps (.pou :: tripBlocks) s (endStandstill s) := (endStandstill_keeps s).mono
  simp only [pinionPulse]
  split
  · exact .after (reportRollback_keeps _) (.after (countPulse_keeps _ _ _) (.after (onPou_keeps _ _) h))
  · exact Keeps.ite (.after (engage_keeps _ _) h) (.after (onPou_keeps _ _) h)
  · exact h

theorem markerPulse_keeps (s : State) : Keeps [.pou, .causes] s (markerPulse s) := by
  unfold markerPulse
  split
  · exact Keeps.refl _ s
  · split
    · exact (latch_keeps _ s).mono
    · refine .after (latch_keeps _ _) ((onPou_keeps_rollback s ?_).mono)
      by_cases h : s.pou.posState = .lost <;> simp [Pou.found, Pou.place, h]
    · exact (latch_keeps _ s).mono

theorem declareStandstill_keeps (s : State) : Keeps (.pou :: evalBlocks) s (declareStandstill s) := by
  have h : Keeps (.pou :: evalBlocks) s (bcuEval (s.onPou (fun p => { p with standstill := true, vMeas := 0 }))) :=
    .after (bcuEval_keeps _) ((onPou_keeps _ s).mono)
  exact Keeps.ite (.after (onPou_keeps _ _) h) h

theorem elapse_keeps (n : Nat) (s : State) :
    Keeps [.pou, .rollback, .aut, .bcu, .dcu, .radio, .transmitter, .nvc, .ctl, .port, .causes, .inp] s (elapse n s) := by
  intro b hb; cases b <;> simp_all [Block.same, elapse]

theorem expireRecords_keeps (s : State) : Keeps (.aut :: tripBlocks) s (expireRecords s) :=
  Keeps.ite (Keeps.refl _ s) (chainChanged_keeps _ s)

/-- What the events that come before a position update may change (R33, R67, R165). -/
theorem beforeUpdate_keeps (s : State) : Keeps ([.pou, .radio, .aut] ++ tripBlocks) s (beforeUpdate s) := by
  have h : Keeps ([.pou, .radio, .aut] ++ tripBlocks) s (judgeLink (expireRecords s)) :=
    .after (judgeLink_keeps _) ((expireRecords_keeps s).mono)
  exact Keeps.ite (.after (declareStandstill_keeps _) h) h

/-! ## Radio -/

/-- What a good frame heard by this car may change before it reaches an owner (R156). -/
theorem heard_keeps (s : State) : Keeps ([.radio, .aut] ++ tripBlocks) s (heard s) :=
  .after (changeLink_keeps _ _) ((onVru_keeps _ s).mono)

theorem heardOther_keeps (s : State) : Keeps [.radio] s (heardOther s) := by
  intro b hb; cases b <;> simp_all [Block.same, heardOther]

theorem repeatAnswer_lessTransmitter (r : LastTaken) (v : Vru) : (v.repeatAnswer r).lessTransmitter = v.lessTransmitter := by
  unfold Vru.repeatAnswer
  split
  · exact queueReport_lessTransmitter _ _ _
  all_goals exact queueAnswer_lessTransmitter _ _

/-- A valley frame changes what hearing it changes and what its owner changes. -/
theorem valleyFrame_keeps {l : List Block} {owner : State → Decided} (h : ∀ s, Keeps l s (owner s).state)
    (addr seq : Byte) (k : ValleyKind) (fb : Bool) (s : State) :
    Keeps ([.radio, .aut] ++ tripBlocks ++ l) s (valleyFrame addr seq k fb owner s) := by
  have hh : Keeps ([.radio, .aut] ++ tripBlocks ++ l) s (heard s) :=
    (heard_keeps s).mono (fun b hb => List.mem_append_left _ hb)
  have ho : Keeps ([.radio, .aut] ++ tripBlocks ++ l) s (owner (heard s)).state :=
    .after (h _) hh (fun b hb => List.mem_append_right _ hb)
  have hv : ∀ (f : Vru → Vru) (u : State), Keeps ([.radio, .aut] ++ tripBlocks ++ l) u (u.onVru f) := fun f u =>
    (onVru_keeps f u).mono (by simp [tripBlocks])
  unfold valleyFrame
  split
  · exact Keeps.refl _ s
  · split
    · exact (heardOther_keeps s).mono (by simp)
    · exact Keeps.ite ho hh
    · simp only
      split
      · exact hh.trans (hv _ _)
      · exact ho.trans (hv _ _)

/-- What a byte received may change: the frame in progress, and the queue its event joins (R153). -/
theorem receiveByte_keeps (b : LineByte) (s : State) : Keeps [.radio, .queue] s (receiveByte b s) := by
  intro k hk; cases k <;> simp_all [Block.same, receiveByte, setRx]

/-- What receiving the bytes then due may change (R153). -/
theorem receive_keeps (l : List LineByte) (s : State) : Keeps [.radio, .inp, .queue] s (receive l s) := by
  induction l generalizing s with
  | nil => exact Keeps.refl _ s
  | cons b rest ih =>
    have h (f : Inp → Inp) : Keeps [.radio, .inp, .queue] s (receiveByte b (s.onInp f)) :=
      .after (receiveByte_keeps b _) ((onInp_keeps f s).mono)
    exact Keeps.ite (Keeps.refl _ s) (Keeps.ite ((h _).trans (ih _)) (h _))

/-! ## Records -/

theorem restrictionsChanged_keeps (l : List Restriction) (s : State) :
    Keeps (.lrs :: tripBlocks) s (restrictionsChanged l s) :=
  .after (recompute_keeps _) (.after (latch_keeps _ _) ((onLrs_keeps _ s).mono))

theorem closureChanged_keeps (c : List Nat) (s : State) : Keeps (.lrs :: tripBlocks) s (closureChanged c s) :=
  .after (recompute_keeps _) (.after (latch_keeps _ _) ((onLrs_keeps _ s).mono))

theorem absorbRestriction_keeps (a b v : Nat) (s : State) : Keeps (.lrs :: tripBlocks) s (absorbRestriction a b v s) :=
  Keeps.ite (Keeps.refl _ s) (.after (recompute_keeps _) (.after (latch_keeps _ _) ((onLrs_keeps _ s).mono)))

theorem restrictBy_keeps (o : Origin) (id a b v : Nat) (ap : Option Applies) (s : State) :
    Keeps (.lrs :: tripBlocks) s (restrictBy o id a b v ap s).state := by
  unfold restrictBy
  split
  · exact Keeps.refl _ s
  · simp only
    split
    · exact Keeps.refl _ s
    · split
      · exact Keeps.refl _ s
      · split
        · split
          · exact restrictionsChanged_keeps _ s
          · exact Keeps.refl _ s
        · split
          · exact restrictionsChanged_keeps _ s
          · split
            · exact Keeps.refl _ s
            · exact absorbRestriction_keeps _ _ _ s

theorem liftBy_keeps (o : Origin) (id : Nat) (s : State) : Keeps (.lrs :: tripBlocks) s (liftBy o id s).state := by
  unfold liftBy
  split
  · exact Keeps.refl _ s
  · split
    · exact restrictionsChanged_keeps _ s
    · exact Keeps.refl _ s

theorem flushOverflow_keeps (s : State) : Keeps (.lrs :: tripBlocks) s (flushOverflow s).state := by
  unfold flushOverflow
  split
  · exact Keeps.refl _ s
  · exact .after (recompute_keeps _) (.after (latch_keeps _ _) ((onLrs_keeps _ s).mono))

theorem stopCloses_keeps (n : Nat) (s : State) : Keeps (.lrs :: tripBlocks) s (stopCloses n s).state := by
  unfold stopCloses
  split
  · exact Keeps.refl _ s
  · split
    · exact Keeps.refl _ s
    · exact .after (doorsSettled_keeps _) (.after (onDcu_keeps _ _) (closureChanged_keeps _ s))

theorem stopOpens_keeps (n : Nat) (s : State) : Keeps (.lrs :: tripBlocks) s (stopOpens n s).state := by
  unfold stopOpens
  split
  · exact closureChanged_keeps _ s
  · split <;> exact Keeps.refl _ s

theorem grantRecord_keeps (id a b : Nat) (d : Option Direction) (v x : Nat) (s : State) :
    Keeps (.aut :: tripBlocks) s (grantRecord id a b d v x s).state := by
  unfold grantRecord
  split
  · exact Keeps.refl _ s
  · split
    · exact Keeps.refl _ s
    · simp only
      repeat' split
      any_goals exact Keeps.refl _ s
      exact chainChanged_keeps _ s

theorem shortenRecord_keeps (id e : Nat) (s : State) : Keeps (.aut :: tripBlocks) s (shortenRecord id e s).state := by
  unfold shortenRecord
  repeat' split
  any_goals exact Keeps.refl _ s
  exact chainChanged_keeps _ s

theorem revokeRecord_keeps (id : Nat) (s : State) : Keeps (.aut :: tripBlocks) s (revokeRecord id s).state := by
  unfold revokeRecord
  repeat' split
  any_goals exact Keeps.refl _ s
  exact chainChanged_keeps _ s

theorem notInStart_keeps {l : List Block} {owner : State → Decided} (h : ∀ s, Keeps l s (owner s).state) (s : State) :
    Keeps l s (notInStart owner s).state := by
  unfold notInStart
  split
  · exact Keeps.refl _ s
  · exact h s

/-! ## Store and mode -/

theorem verifyTable_keeps (t : Table) (s : State) : Keeps ([.nv, .ctl, .lrs] ++ tripBlocks) s (verifyTable t s) := by
  have h : Keeps ([.nv, .ctl, .lrs] ++ tripBlocks) s
      (s.onCtl (Ctl.setVerified t { found := s.tableState t, outcome := s.nv.verify t })) := (onCtl_keeps _ s).mono
  exact Keeps.ite (.after (leaveClosed_keeps _ _) (.after (onNv_keeps _ _) h)) h

theorem startOp_keeps (op : NvOp) (s : State) : Keeps ([.nv, .nvc, .lrs] ++ tripBlocks) s (startOp op s) := by
  have h := onNvc_keeps (fun n => { n with op := some { op := op, limit := op.limit n.batch.declared, elapsed := 0 } }) s
  have h' : Keeps ([.nv, .nvc, .lrs] ++ tripBlocks) s (s.onNvc (fun n =>
    { n with op := some { op := op, limit := op.limit n.batch.declared, elapsed := 0 } })) := h.mono
  exact Keeps.ite (Keeps.ite (.after (leaveClosed_keeps _ _) (.after (onNv_keeps _ _) h')) (.after (onNv_keeps _ _) h')) h'

/-- An operation that marks no table changes nothing but itself at its start (R174). -/
theorem startOp_keeps_unmarked {op : NvOp} (h : op.marks = false) (s : State) : Keeps [.nvc] s (startOp op s) := by
  unfold startOp
  simp only [h]
  exact onNvc_keeps _ s

theorem endOp_keeps (op : NvOp) (r : NvResult) (s : State) : Keeps (.nvc :: tripBlocks) s (endOp op r s) := by
  have h := onNvc_keeps (fun n => { n with op := none, opRec := some { op := op, result := r }, batch := n.batch.drop }) s
  have h' : Keeps (.nvc :: tripBlocks) s (latch .nvDone (s.onNvc (fun n =>
    { n with op := none, opRec := some { op := op, result := r }, batch := n.batch.drop }))) := .after (latch_keeps _ _) h.mono
  exact Keeps.ite (.after (recompute_keeps _) h') h'

theorem completeOp_keeps (f : InFlight) (s : State) : Keeps ([.nv, .nvc] ++ tripBlocks) s (completeOp f s) :=
  .after (endOp_keeps _ _ _) ((onNv_keeps _ s).mono)

theorem faultOp_keeps (r : NvResult) (cut : Cut) (f : InFlight) (s : State) :
    Keeps ([.nv, .nvc] ++ tripBlocks) s (faultOp r cut f s) :=
  .after (endOp_keeps _ _ _) ((onNv_keeps _ s).mono)

/-- A change to any mode but SERVICE leaves the run lock, and all of the NVC, alone (R188). -/
theorem changeMode_keeps_nvc {m : Mode} (hm : m ≠ .service) (s : State) : Keeps (.ctl :: tripBlocks) s (changeMode m s) := by
  have h1 : Keeps (.ctl :: tripBlocks) s (abortTest .abortMode
      ((s.onCtl (fun c => { c with mode := m })).onBcu (fun b => { b with driveReq := false }))) :=
    .after (abortTest_keeps _ _) (.after (onBcu_keeps _ _) ((onCtl_keeps _ s).mono))
  have h2 := Keeps.ite (c := s.ctl.mode = .service || s.ctl.mode = .depot) (.after (withdrawBoth_keeps _) h1) h1
  simp only [changeMode, hm, if_false]
  exact .after (bcuEval_keeps _) (.after (recompute_keeps _) h2)

theorem verifyIfDue_keeps (x : Table) (s : State) : Keeps ([.nv, .lrs, .ctl] ++ tripBlocks) s (verifyIfDue x s) :=
  Keeps.ite ((verifyTable_keeps x s).mono) (Keeps.refl _ s)

theorem latchAddress_keeps (s : State) : Keeps [.radio, .transmitter] s (latchAddress s) := onVru_keeps _ s

theorem latchIfDue_keeps (s : State) : Keeps [.radio, .transmitter] s (latchIfDue s) :=
  Keeps.ite (Keeps.refl _ s) (latchAddress_keeps s)

theorem startSequence_keeps (s : State) : Keeps ([.nv, .lrs, .radio, .ctl] ++ tripBlocks) s (startSequence s) := by
  have h1 : Keeps ([.nv, .lrs, .radio, .ctl] ++ tripBlocks) s (latchIfDue (verifyIfDue .car s)) :=
    .after (latchIfDue_keeps _) ((verifyIfDue_keeps _ s).mono)
  have h2 := Keeps.after (verifyIfDue_keeps .stops _) (.after (verifyIfDue_keeps .profile _) h1)
  have h3 : Keeps ([.nv, .lrs, .radio, .ctl] ++ tripBlocks) s
      (copySettings (verifyIfDue .stops (verifyIfDue .profile (latchIfDue (verifyIfDue .car s))))) :=
    .after (onLrs_keeps _ _) h2
  exact .after (changeMode_keeps_nvc (by decide) _) (.after (onCtl_keeps _ _) h3)

/-- A step of START that the part's clock takes changes no more than START_SEQUENCE may change. -/
theorem startClock_keeps (s : State) : Keeps ([.nv, .lrs, .radio, .ctl] ++ tripBlocks) s (startClock s) := by
  have h : Keeps ([.nv, .lrs, .radio, .ctl] ++ tripBlocks) s (startNext s) := by
    unfold startNext
    split
    · exact (verifyTable_keeps _ s).mono
    · exact (latchAddress_keeps s).mono
    · exact (verifyTable_keeps _ s).mono
    · exact (verifyTable_keeps _ s).mono
    · exact Keeps.refl _ s
  exact Keeps.ite (.after (kickTransmit_keeps _) h) (Keeps.refl _ s)

/-- Where no step of START is due the part's clock does nothing of START. -/
@[simp] theorem startClock_not_due {s : State} (h : s.startDue = false) : startClock s = s := by simp [startClock, h]

theorem filterSettled_keeps (i : InputLevels) (s : State) : Keeps (.inp :: tripBlocks) s (filterSettled i s) :=
  .after (settleEb_keeps _) (.after (bandSwitched_keeps _ _) (.after (bandSwitched_keeps _ _) (.after (doorsSettled_keeps _)
    (.after (onDcu_keeps _ _) ((onInp_keeps _ s).mono)))))

theorem parkCar_keeps (s : State) : Keeps ([.aut, .radio, .ctl] ++ tripBlocks) s (parkCar s) := by
  have h : Keeps ([.aut, .radio, .ctl] ++ tripBlocks) s (emptyChain s) :=
    .after (latchIf_keeps _ _ _) ((onAut_keeps _ s).mono)
  exact .after (bcuEval_keeps _) (.after (onBcu_keeps _ _) (.after (changeMode_keeps_nvc (by decide) _)
    (.after (onVru_keeps _ _) h)))

theorem wakeCar_keeps (s : State) : Keeps ([.pou, .radio, .aut, .ctl] ++ tripBlocks) s (wakeCar s) :=
  .after (changeMode_keeps_nvc (by decide) _) (.after (transceiverOn_keeps _ _) (.after (onPou_keeps _ _)
    ((onCtl_keeps _ s).mono)))

theorem leaveTrip_keeps (s : State) : Keeps tripBlocks s (leaveTrip s) :=
  .after (bcuEval_keeps _) (.after (setSupState_keeps _ _) ((onSsu_keeps _ s).mono))

/-! ## Requests -/

theorem report_keeps (f : State → List Byte) (s : State) : Keeps [] s (report f s).2 := Keeps.refl _ s

theorem withKey_keeps {l : List Block} {owner : State → Owned} (h : ∀ s, Keeps l s (owner s).2) (key : Bool) (s : State) :
    Keeps (.inp :: l) s (withKey key owner s).2 :=
  ((onInp_keeps _ s).mono (by simp)).trans ((h _).mono (fun b hb => List.mem_cons_of_mem _ hb))

/-- A depot request changes the keyswitch line as read, and what its own rule changes (R173). -/
theorem depotGate_keeps {l : List Block} {owner : State → Owned} (h : ∀ s, Keeps l s (owner s).2) (key : Bool) (s : State) :
    Keeps (.inp :: l) s (depotGate key owner s).2 := by
  refine withKey_keeps ?_ key s
  intro u
  repeat' split
  any_goals exact Keeps.refl _ u
  exact h u

theorem onTable_keeps {l : List Block} {owner : Table → State → Owned} (h : ∀ t s, Keeps l s (owner t s).2)
    (t : Option Table) (s : State) : Keeps l s (onTable t owner s).2 := by
  unfold onTable
  split
  · exact Keeps.refl _ s
  · exact h _ s

end Sys2Proof.Machine
end

