-- ==== Sys2Proof/Laws/Specs.lean ====
section
/-! SUPPORT. What each shared operation does, said once: the value of what it writes. What it leaves alone stands in
Sys2Proof/Laws/Keeps.lean. -/

namespace Sys2Proof.Machine

/-! ## Causes and the ATTN line -/

/-- A latched cause is in the set, and no other is lost or gained (R208). -/
theorem latch_causes (c : Cause) (s : State) : (latch c s).cmp.causes = s.cmp.causes ||| c.bit := rfl

theorem latch_attn (c : Cause) (s : State) :
    (latch c s).cmp.attn = ((s.cmp.causes ||| c.bit) &&& s.cmp.mask != 0#17) := rfl

theorem latchIf_true (c : Cause) (s : State) : latchIf true c s = latch c s := rfl

theorem latchIf_false (c : Cause) (s : State) : latchIf false c s = s := rfl

/-- Setting the cause set leaves the ATTN line active exactly while an enabled cause is latched (R208). -/
theorem setCauses_attn (x m : BitVec 17) (p : Cmp) : (p.setCauses x m).attn = true ↔ x &&& m ≠ 0#17 := by
  simp [Cmp.setCauses]

/-! ## Requests and responses (R194, R206, R207) -/

/-- A request frame that ends while another is in progress is dropped (R206). -/
theorem takeRequest_dropped {s : State} (h : s.cmp.inProgress ≠ none) (code : Byte) (status : Bool)
    (owner : State → Owned) : takeRequest code status owner s = s := by
  unfold takeRequest
  rw [if_pos (by simpa [Option.isSome_iff_ne_none] using h)]

/-- In START and WAKING a request that is no status request is answered BUSY (R194). -/
theorem takeRequest_busy {s : State} (h : s.cmp.inProgress = none) (hm : s.ctl.mode.refusesRequests = true) (code : Byte)
    (owner : State → Owned) :
    takeRequest code false owner s = s.asTaken.onCmp (fun p =>
      { p with inProgress := some { code := code, answer := answerRefused .busy [], timer := 2 } }) := by
  simp [takeRequest, h, hm, State.asTaken, refuse]

/-- After the frame of a request every byte clocked out beside it was 0 (R204). -/
theorem clockZeros_outByte (s : State) (i : Nat) : (clockZeros s).cmp.outByte i = 0#8 := rfl

theorem clockZeros_cmp (s : State) : (clockZeros s).cmp = { s.cmp with dataOut := [] } := rfl

/-- A request that is served reaches its owner, whose answer is to be the response (R206). -/
theorem takeRequest_served {s : State} (h : s.cmp.inProgress = none) {status : Bool}
    (hm : s.ctl.mode.refusesRequests = false ∨ status = true) (code : Byte) (owner : State → Owned) :
    takeRequest code status owner s = (owner s.asTaken).2.onCmp (fun p =>
      { p with inProgress := some { code := code, answer := (owner s.asTaken).1, timer := 2 } }) := by
  obtain hm | hm := hm <;> simp [takeRequest, h, hm, State.asTaken]

/-- The response becomes the waiting one from its first byte, and RDY active (R206). -/
theorem respond_waiting {p : Cmp} {r : InProgress} (h : p.inProgress = some r) :
    p.respond.waiting = some (responseFrame r.code r.answer) ∧ p.respond.readPos = 0 ∧ p.respond.rdy = true ∧
      p.respond.inProgress = none := by
  simp [Cmp.respond, h, Cmp.setWaiting]

/-! ## The transmitter (R160, R161) -/

/-- With a frame being sent, the next one waits (R161). -/
theorem kickTransmit_sending {s : State} (h : s.vru.sending ≠ none) : kickTransmit s = s := by
  unfold kickTransmit
  split
  · rename_i h1 _ _; exact absurd h1 h
  · rfl

/-- With nothing waiting, nothing begins. -/
theorem kickTransmit_empty {s : State} (h : s.vru.queue = []) : kickTransmit s = s := by
  unfold kickTransmit
  split
  · rename_i h1 _; rw [h] at h1; cases h1
  · rfl

/-- The oldest waiting frame begins where nothing is being sent, and takes the transmit sequence (R160, R161). -/
theorem kickTransmit_begins {s : State} {f : CarFrame} {rest : List CarFrame} {a : Nat} (h : s.vru.sending = none)
    (hq : s.vru.queue = f :: rest) (ha : s.vru.latched = some a) :
    (kickTransmit s).vru.sending = some (s.carFrameBytes a f) ∧ (kickTransmit s).vru.queue = rest ∧
      (kickTransmit s).vru.txSeq = s.vru.txSeq + 1#8 := by
  simp [kickTransmit, h, hq, ha]

/-- Beginning a transmission changes no field of the VRU that a frame received or a timer of the link reads. -/
theorem kickTransmit_link (s : State) : (kickTransmit s).vru.link = s.vru.link ∧
    (kickTransmit s).vru.silence = s.vru.silence ∧ (kickTransmit s).vru.xcvr = s.vru.xcvr ∧
    (kickTransmit s).vru.lastTaken = s.vru.lastTaken ∧ (kickTransmit s).vru.latched = s.vru.latched := by
  unfold kickTransmit; split <;> simp

/-! ## Doors (R135, R139, R147) -/

/-- The summary is SECURE exactly where every leaf is LOCKED or ISOLATED (R147). -/
theorem refresh_secure (d : Dcu) : d.refresh.secure =
    (d.a1.state.isSecure && d.a2.state.isSecure && d.b1.state.isSecure && d.b2.state.isSecure) := rfl

theorem refreshDoors_dcu (s : State) : (refreshDoors s).dcu = s.dcu.refresh := by
  unfold refreshDoors latchIf; split <;> rfl

/-- After a refresh the summary says what the leaves are (R147). -/
theorem refreshDoors_summaryTrue (s : State) : (refreshDoors s).summaryTrue := by
  simp [State.summaryTrue, State.leavesSecure, refreshDoors_dcu, Dcu.refresh, and_assoc]

/-! ## Brakes (R108, R110, R112) -/

/-- Release permission is held exactly where no condition fails (R110). -/
theorem evaluate_permission (r : Readings) (b : Bcu) : (b.evaluate r).permission = (b.failing r).isEmpty := by
  simp only [Bcu.evaluate, Bcu.evalOut, Bcu.evalBands, Bcu.evalWb]
  split <;> split <;> split <;> rfl

/-- The conditions of release permission that fail are none exactly where all seven hold (R110). -/
theorem failing_isEmpty (r : Readings) (b : Bcu) : (b.failing r).isEmpty = true ↔
    (r.mode = .service ∨ r.mode = .depot) ∧ (b.test = .passed ∨ b.test = .passedDegraded) ∧ r.secure = true ∧
      (r.sup = .clear ∨ r.sup = .advise) ∧ 0 < r.vPerm ∧ b.wbFault = false ∧
      ((b.pb1.state = .fault ∨ b.pb2.state = .fault) → r.needsBands = false) := by
  unfold Bcu.failing
  by_cases h1 : r.mode = .service ∨ r.mode = .depot <;> by_cases h2 : b.test = .passed ∨ b.test = .passedDegraded <;>
    by_cases h3 : r.secure = true <;> by_cases h4 : r.sup = .clear ∨ r.sup = .advise <;> by_cases h5 : 0 < r.vPerm <;>
    by_cases h6 : b.wbFault = true <;> simp_all

/-- The traction-permitted line is active exactly with permission, a drive request that stands, and no test step running
(R112). -/
theorem evaluate_traction (r : Readings) (b : Bcu) : (b.evaluate r).traction =
    ((b.failing r).isEmpty && (b.driveReq && !(r.standstill && !(b.failing r).isEmpty)) && b.test.running.isNone) := by
  simp only [Bcu.evaluate, Bcu.evalOut, Bcu.evalBands, Bcu.evalWb]
  split <;> split <;> split <;> rfl

/-- An evaluation changes neither the test nor the faults and EB availability (R100). -/
theorem evaluate_test (r : Readings) (b : Bcu) : (b.evaluate r).test = b.test ∧ (b.evaluate r).wbFault = b.wbFault ∧
    (b.evaluate r).ebAvail = b.ebAvail ∧ (b.evaluate r).ebDegraded = b.ebDegraded := by
  simp only [Bcu.evaluate, Bcu.evalOut, Bcu.evalBands, Bcu.evalWb]
  split <;> split <;> split <;> exact ⟨rfl, rfl, rfl, rfl⟩

/-- The EB demand follows supervision, engagement and availability (R102). -/
theorem evaluate_ebDemand (r : Readings) (b : Bcu) : (b.evaluate r).ebDemand =
    (r.sup = .trip || (r.sup = .intervene && (r.engaged || b.ebAvail))) := by
  simp only [Bcu.evaluate, Bcu.evalOut, Bcu.evalBands, Bcu.evalWb]
  split <;> split <;> split <;> rfl

/-! ## Supervision (R76, R90 to R95) -/

/-- The values a recomputation forms are those of the state it meets (R76, R87 to R89). -/
theorem computeSpeed_ssu (s : State) : (computeSpeed s).ssu.vPerm = s.permitted ∧ (computeSpeed s).ssu.record = s.supRecord ∧
    (computeSpeed s).ssu.used = s.usedNow ∧ (computeSpeed s).ssu.state = s.ssu.state ∧
    (computeSpeed s).ssu.trip = s.ssu.trip := ⟨rfl, rfl, rfl, rfl, rfl⟩

/-- Entry into TRIP: the state, and a trip record of the values held (R92 to R94). -/
theorem enterTrip_ssu (c : TripCause) (s : State) :
    (enterTrip c s).ssu = { s.ssu with state := .trip, trip := some (s.newTrip c) } := by
  have h := (((onBcu_keeps (fun b => { b with driveReq := false }) (abortTest .abortTrip
    (latch .trip (s.onSsu (fun u => { u with state := .trip, trip := some (s.newTrip c) }))))).after (m := [.bcu])
    (l := evalBlocks) ((abortTest_keeps _ _).mono)).trans (bcuEval_keeps _)).trans (withdrawBoth_keeps _)
  have k := h.ssu
  simpa [enterTrip, latch] using k

/-- A trip cause joins the set in TRIP, and enters TRIP in every other state (R93, R95). -/
theorem tripCause_state (c : TripCause) (s : State) : (tripCause c s).ssu.state = .trip := by
  unfold tripCause
  split
  · simpa [addCause] using ‹_›
  · rw [enterTrip_ssu]

/-- A trip cause takes the value of v_perm and the supervision record as they stand (R93). -/
theorem tripCause_vPerm (c : TripCause) (s : State) : (tripCause c s).ssu.vPerm = s.ssu.vPerm ∧
    (tripCause c s).ssu.record = s.ssu.record ∧ (tripCause c s).ssu.used = s.ssu.used := by
  unfold tripCause
  split
  · exact ⟨rfl, rfl, rfl⟩
  · rw [enterTrip_ssu]; exact ⟨rfl, rfl, rfl⟩

theorem setSupState_ssu (st : SupState) (s : State) : (setSupState st s).ssu = { s.ssu with state := st } := by
  unfold setSupState; split <;> rfl

theorem addTripCauses_ssu (s : State) : (addTripCauses s).ssu.vPerm = s.ssu.vPerm ∧
    (addTripCauses s).ssu.record = s.ssu.record ∧ (addTripCauses s).ssu.used = s.ssu.used ∧
    (addTripCauses s).ssu.state = s.ssu.state := by
  unfold addTripCauses; dsimp only; split
  · exact ⟨rfl, rfl, rfl, rfl⟩
  · split <;> exact ⟨rfl, rfl, rfl, rfl⟩

/-- All that a recomputation does to the SSU: v_perm, record and inputs worked out anew; in TRIP at most the cause set grows, and any other
state goes where `supNext` takes it, with a new trip record at entry into TRIP (R76, R90 to R95). -/
theorem recompute_cases (s : State) : (recompute s).ssu =
    if s.ssu.state = .trip then (addTripCauses (computeSpeed s)).ssu
    else match supNext s.ssu.state s.pou.last.vMeas s.permitted s.cfg.warnMargin s.cfg.intervMargin s.onRackWithoutEb with
      | (_, some c) => { (computeSpeed s).ssu with state := .trip, trip := some ((computeSpeed s).newTrip c) }
      | (st, none) => { (computeSpeed s).ssu with state := st } := by
  have hb (t : State) : (bcuEval t).ssu = t.ssu := (bcuEval_keeps t).ssu
  unfold recompute superviseSpeed
  rw [show (computeSpeed s).ssu.state = s.ssu.state from rfl]
  split
  · dsimp only; split <;> simp only [hb]
  · rw [show supNext s.ssu.state (computeSpeed s).pou.last.vMeas (computeSpeed s).ssu.vPerm (computeSpeed s).cfg.warnMargin
      (computeSpeed s).cfg.intervMargin (computeSpeed s).onRackWithoutEb = supNext s.ssu.state s.pou.last.vMeas s.permitted
      s.cfg.warnMargin s.cfg.intervMargin s.onRackWithoutEb from rfl]
    generalize supNext s.ssu.state _ _ _ _ _ = next
    obtain ⟨st, _ | c⟩ := next
    · dsimp only
      split
      · rename_i h
        simp only [Bool.and_eq_true, decide_eq_true_eq] at h
        rw [h.1]; rfl
      · rw [hb, setSupState_ssu]
    · exact enterTrip_ssu _ _

/-- After a recomputation v_perm, the supervision record and the inputs used are those of the state it met (R76). -/
theorem recompute_ssu (s : State) : (recompute s).ssu.vPerm = s.permitted ∧ (recompute s).ssu.record = s.supRecord ∧
    (recompute s).ssu.used = s.usedNow := by
  have k := addTripCauses_ssu (computeSpeed s)
  rw [recompute_cases]
  split
  · exact ⟨k.1, k.2.1, k.2.2.1⟩
  · split <;> exact ⟨rfl, rfl, rfl⟩

/-- A recomputation never leaves TRIP (R90). -/
theorem recompute_trip {s : State} (h : s.ssu.state = .trip) : (recompute s).ssu.state = .trip := by
  rw [recompute_cases, if_pos h]
  exact (addTripCauses_ssu _).2.2.2.trans h

/-! ## The time before a position update (R33, R67, R68; log 2) -/

/-- A record has run out after `n` milliseconds exactly where its time left was that or less, still AHEAD (R67). -/
theorem expired_elapse (n : Nat) (r : Authority) : (r.elapse n).expired = true ↔ r.runsOutIn n := by
  obtain ⟨_, _, _, _, _, _, left, occ⟩ := r
  cases occ <;> cases left <;> simp [Authority.elapse, Authority.expired, Authority.runsOutIn, ranOut, timerLess]
  omega

/-- The first record that has run out while AHEAD is retired with all after it, and nothing else of the chain moves (R67). -/
theorem expireRecords_aut (s : State) :
    (expireRecords s).aut = { s.aut with chain := s.aut.chain.takeWhile (fun r => !r.expired) } := by
  unfold expireRecords
  dsimp only
  split
  · next h => rw [(List.takeWhile_sublist _).eq_of_length h]
  · exact (recompute_keeps _).aut

/-- Before the update only standstill and v_meas of the POU move, its rollback accumulator apart: standstill is declared where its time has
come (R32, R33, R47). -/
theorem beforeUpdate_pou (s : State) : (beforeUpdate s).pou.zeroRollback =
    (if s.standstillDue then { s.pou with standstill := true, vMeas := 0 } else s.pou).zeroRollback := by
  have h : Keeps ([.radio, .aut] ++ tripBlocks) s (judgeLink (expireRecords s)) :=
    .after (judgeLink_keeps _) ((expireRecords_keeps s).mono)
  have hp : (judgeLink (expireRecords s)).pou.zeroRollback = s.pou.zeroRollback := h .pou (by decide)
  have hd : (judgeLink (expireRecords s)).standstillDue = s.standstillDue :=
    show (!(Pou.zeroRollback _).standstill && decide (1000 ≤ (Pou.zeroRollback _).sincePulse)) = _ by rw [hp]; rfl
  have hs (t : State) : (declareStandstill t).pou.zeroRollback = { t.pou.zeroRollback with standstill := true, vMeas := 0 } := by
    have k := (bcuEval_keeps (t.onPou (fun p => { p with standstill := true, vMeas := 0 }))) .pou (by decide)
    unfold declareStandstill
    dsimp only
    split <;> simpa [Block.same, Pou.zeroRollback] using k
  unfold beforeUpdate
  dsimp only
  rw [hd]
  split
  · rw [hs, hp]; rfl
  · exact hp

/-! ## Link and mode (R165, R167, R191) -/

/-- After a change of link state the link has it (R167). -/
theorem linkTo_link (l : LinkState) (v : Vru) : (v.linkTo l).link = l := by
  cases l <;> simp only [Vru.linkTo]
  split
  · simp only [Vru.startReport, Vru.queueReport]; split
    · rfl
    · split <;> rfl
  · rfl

/-- The link of two states that differ in the transmitter alone. -/
theorem Keeps.link {l : List Block} {s t : State} (h : Keeps l s t) (hl : Block.radio ∉ l := by decide) :
    t.vru.link = s.vru.link ∧ t.vru.silence = s.vru.silence ∧ t.vru.xcvr = s.vru.xcvr ∧ t.vru.shadow = s.vru.shadow ∧
      t.vru.lastTaken = s.vru.lastTaken ∧ t.vru.latched = s.vru.latched := by
  have k : t.vru.lessTransmitter = s.vru.lessTransmitter := h .radio hl
  have f {α : Type} (g : Vru → α) (hg : ∀ v : Vru, g v.lessTransmitter = g v) : g t.vru = g s.vru := by
    rw [← hg t.vru, k, hg]
  exact ⟨f _ fun _ => rfl, f _ fun _ => rfl, f _ fun _ => rfl, f _ fun _ => rfl, f _ fun _ => rfl, f _ fun _ => rfl⟩

/-- A change of link state ends in that state (R165, R167). -/
theorem changeLink_link (l : LinkState) (s : State) : (changeLink l s).vru.link = l := by
  unfold changeLink
  split
  · assumption
  · dsimp only
    rw [(recompute_keeps _).link.1]
    split
    · rw [(cutBack_keeps _).link.1]; simp [latch, linkTo_link]
    · simp [latch, linkTo_link]

/-- A directed or broadcast good frame leaves the link UP with no silence (R156, R165). -/
theorem heard_link (s : State) : (heard s).vru.link = .up := changeLink_link _ _

/-- A change of mode ends in that mode (R191). -/
theorem changeMode_mode (m : Mode) (s : State) : (changeMode m s).ctl.mode = m := by
  unfold changeMode
  dsimp only
  rw [(bcuEval_keeps _).ctl, (recompute_keeps _).ctl]
  split <;> split <;> simp [(withdrawBoth_keeps _).ctl, (abortTest_keeps _ _).ctl]

/-! ## Lists kept in an order -/

theorem mem_insertSorted {α : Type} (before : α → α → Bool) (x y : α) (l : List α) :
    y ∈ insertSorted before x l ↔ y = x ∨ y ∈ l := by
  induction l with
  | nil => simp [insertSorted]
  | cons z rest ih =>
    simp only [insertSorted]
    split
    · simp
    · simp only [List.mem_cons, ih]; exact or_left_comm

theorem length_insertSorted {α : Type} (before : α → α → Bool) (x : α) (l : List α) :
    (insertSorted before x l).length = l.length + 1 := by
  induction l with
  | nil => rfl
  | cons z rest ih =>
    simp only [insertSorted]
    split <;> simp [ih]

/-- What is kept of a list by place is a part of it. -/
theorem mem_of_mem_keepPlaces {α : Type} (keep : Nat → Bool) (y : α) :
    ∀ (i : Nat) (l : List α), y ∈ keepPlaces keep i l → y ∈ l
  | _, [], h => by simp [keepPlaces] at h
  | i, z :: rest, h => by
    simp only [keepPlaces] at h
    split at h
    · rcases List.mem_cons.mp h with rfl | h
      · exact List.mem_cons_self ..
      · exact List.mem_cons_of_mem _ (mem_of_mem_keepPlaces keep y _ _ h)
    · exact List.mem_cons_of_mem _ (mem_of_mem_keepPlaces keep y _ _ h)

/-- Dropping the oldest ANSWER of a queue that holds one leaves one frame fewer (R161). -/
theorem length_dropOldestAnswer (q : List CarFrame) (h : q.any (fun f => !f.isReport) = true) :
    (dropOldestAnswer q).length + 1 = q.length := by
  induction q with
  | nil => simp at h
  | cons f rest ih =>
    cases f with
    | answer a => simp [dropOldestAnswer]
    | report o p =>
      simp only [dropOldestAnswer, List.length_cons]
      rw [ih (by simpa [CarFrame.isReport] using h)]

/-! ## The receiver (R153) -/

/-- A byte whose time has not come is not yet received. -/
theorem receive_waits {b : LineByte} {rest : List LineByte} {s : State} (h : s.inp.lineWait < b.gap) :
    receive (b :: rest) s = s := by
  simp [receive, h]

/-- A byte whose time has come leaves the line, and the bytes after it follow where it brings no event. -/
theorem receive_due {b : LineByte} {rest : List LineByte} {s t : State} (h : b.gap ≤ s.inp.lineWait)
    (ht : t = receiveByte b (s.onInp (fun i => { i with line := rest, lineWait := i.lineWait - b.gap }))) :
    receive (b :: rest) s = if (s.vru.hear b).2 = [] then receive rest t else t := by
  simp [receive, Nat.not_lt.mpr h, ht]

theorem receiveByte_rx (b : LineByte) (s : State) : (receiveByte b s).vru.rx = (s.vru.hear b).1 := rfl

theorem receiveByte_pending (b : LineByte) (s : State) : (receiveByte b s).pending = s.pending ++ (s.vru.hear b).2 := rfl

/-- A part that does not listen hears nothing (R150, R192). -/
theorem hear_deaf {v : Vru} (h : v.listens = false) (b : LineByte) : v.hear b = ([], []) := by
  simp [Vru.hear, h]

/-! ## START (R192, R193) -/

/-- Verifying a table writes its own verification record, and nothing else of the mode controller (R190, R193). -/
theorem verifyTable_ctl (x : Table) (s : State) :
    (verifyTable x s).ctl = s.ctl.setVerified x { found := s.tableState x, outcome := s.nv.verify x } := by
  simp only [verifyTable]
  split
  · exact (leaveClosed_keeps _ _).ctl
  · rfl

/-- Verifying a table changes no record (R193). -/
theorem verifyTable_records (x : Table) (s : State) : (verifyTable x s).nv.records = s.nv.records := by
  simp only [verifyTable]
  split
  · rw [show (leaveClosed x _).nv = _ from leaveClosed_keeps _ _ .nv (by decide)]
    cases x <;> rfl
  · rfl

theorem verifyIfDue_done {x : Table} {s : State} (h : (s.ctl.verified x).isSome = true) : verifyIfDue x s = s := by
  cases hv : s.ctl.verified x <;> simp_all [verifyIfDue]

theorem verifyIfDue_left {x : Table} {s : State} (h : s.ctl.verified x = none) : verifyIfDue x s = verifyTable x s := by
  simp [verifyIfDue, h]

theorem latchIfDue_done {s : State} (h : s.vru.hunting = true) : latchIfDue s = s := by simp [latchIfDue, h]

theorem latchIfDue_left {s : State} (h : s.vru.hunting = false) : latchIfDue s = latchAddress s := by
  simp [latchIfDue, h]

/-- The clock's steps of START leave the mode; only START_SEQUENCE enters READY (R192). -/
theorem startNext_mode (s : State) : (startNext s).ctl.mode = s.ctl.mode := by
  have h : ∀ x v, (s.ctl.setVerified x v).mode = s.ctl.mode := fun x _ => by cases x <;> rfl
  unfold startNext
  split <;> first | rfl | (rw [verifyTable_ctl]; exact h _ _)

/-! ## Doors (R133, R137) -/

/-- A leaf that reaches OPEN keeps no close that reached it before (R133; log 39). -/
theorem reachOpen_closeAsked (x : SideRec) (g : Settings) (l : LeafRec) : (l.reachOpen x g).closeAsked = false := by
  simp only [LeafRec.reachOpen, LeafRec.toWaiting, LeafRec.toDwell, LeafRec.toWarning, LeafRec.toClosing]
  repeat' split
  all_goals rfl

/-- A leaf's stroke position is that of its last sample, and a sample of another leaf leaves it (R125). -/
@[simp] theorem leafStroke_setLeafStroke (l m : Leaf) (n : Nat) (x : LeafStrokes) :
    leafStroke (setLeafStroke m n x) l = if l = m then n else leafStroke x l := by
  cases l <;> cases m <;> rfl

/-- A sample of a CLOSING leaf outside the watched part brings its position and nothing else; a leaf that is not CLOSING reads none
(R125, R144; log 29). -/
theorem execDoorSample_ignored {l : Leaf} {current stroke : Nat} {s : State} (h : stroke < 50 ∨ 950 < stroke) :
    execDoorSample l current stroke s =
      finish (if (s.dcu.leaf l).state = .closing then s.onStroke l stroke else s) := by
  have h' : (50 ≤ stroke && stroke ≤ 950) = false := by simp; omega
  simp [execDoorSample, h']

/-- A stall reverses a CLOSING leaf with a candidate that stands at 950 or below, and does nothing else (R144; log 59). -/
theorem execStallTimeout_cases (l : Leaf) (s : State) :
    execStallTimeout l s = finish s ∨
      ∃ k : Candidate, (s.dcu.leaf l).candidate = some k ∧ (s.dcu.leaf l).state = .closing ∧
        leafStroke s.inp.strokes l ≤ 950 ∧ execStallTimeout l s = finish (confirmObstruction l k k.lastPos s) := by
  unfold execStallTimeout
  cases hk : (s.dcu.leaf l).candidate with
  | none => exact .inl rfl
  | some k =>
    dsimp only
    split
    · next h =>
      simp [pastWatch] at h
      exact .inr ⟨k, rfl, h.1, h.2, rfl⟩
    · exact .inl rfl

/-- A DOOR_CLOSE clears the attempt count and the hold-open mark of every leaf (R137). -/
theorem closeOut_clears (lead : Nat) (l : LeafRec) :
    (l.closeOut lead).attempts = 0 ∧ (l.closeOut lead).holdOpen = false := by
  obtain ⟨st⟩ := l
  cases st <;> simp [LeafRec.closeOut, LeafRec.lockIt, LeafRec.toWarning, LeafRec.toClosing]
  split <;> simp

/-! ## Lookups and deceleration (R3, R7, R82) -/

/-- A record is shown with its end exactly in a CLOSED table; every other field is the stored one (R3, R8). -/
theorem shownSegment_fields (s : State) (g : Segment) :
    (s.shownSegment g).start = g.start ∧ (s.shownSegment g).gradient = g.gradient ∧ (s.shownSegment g).kind = g.kind ∧
      (s.shownSegment g).limitUp = g.limitUp ∧ (s.shownSegment g).limitDown = g.limitDown ∧
      (s.shownSegment g).shadow = g.shadow ∧
      (s.shownSegment g).endC = if s.tableState .profile = .closed then g.endC else none := by
  unfold State.shownSegment; split <;> simp

/-- A segment is placed at its own index, from its start to where its extent ends (R3, R4). -/
theorem mem_placeFrom (segs : List Segment) : ∀ (k : Nat) (p : Placed), p ∈ placeFrom k segs ↔
    ∃ (j : Nat) (g : Segment), segs[j]? = some g ∧
      p = { index := k + j, lo := g.start, hi := segmentEnd segs j, seg := g } := by
  induction segs with
  | nil => intro k p; simp [placeFrom]
  | cons x rest ih =>
    intro k p
    cases rest with
    | nil =>
      constructor
      · intro h
        exact ⟨0, x, rfl, by simpa [placeFrom, segmentEnd] using h⟩
      · rintro ⟨j, g, hj, rfl⟩
        cases j with
        | zero => simp at hj; subst hj; simp [placeFrom, segmentEnd]
        | succ j => simp at hj
    | cons y rest =>
      have step : p ∈ placeFrom k (x :: y :: rest) ↔
          p = { index := k, lo := x.start, hi := some y.start, seg := x } ∨ p ∈ placeFrom (k + 1) (y :: rest) := by
        simp [placeFrom]
      rw [step, ih (k + 1) p]
      constructor
      · rintro (rfl | ⟨j, g, hj, rfl⟩)
        · exact ⟨0, x, rfl, by simp [segmentEnd]⟩
        · exact ⟨j + 1, g, by simpa using hj, by simp [segmentEnd]; omega⟩
      · rintro ⟨j, g, hj, rfl⟩
        cases j with
        | zero => simp at hj; subst hj; exact .inl (by simp [segmentEnd])
        | succ j => exact .inr ⟨j, g, by simpa using hj, by simp [segmentEnd]; omega⟩

/-- The lookup over a span finds exactly the segments whose extent shares a chainage with it (R7). -/
theorem mem_segmentsOver (segs : List Segment) (a b : Int) (p : Placed) : p ∈ segmentsOver segs a b ↔
    ∃ (j : Nat) (g : Segment), segmentMeets segs j g a b ∧
      p = { index := j, lo := g.start, hi := segmentEnd segs j, seg := g } := by
  simp only [segmentsOver, List.mem_filter, mem_placeFrom, segmentMeets]
  constructor
  · rintro ⟨⟨j, g, hj, rfl⟩, ho⟩
    refine ⟨j, g, ?_, by simp⟩
    cases h : segmentEnd segs j <;> simp_all [Placed.overlaps]
  · rintro ⟨j, g, ⟨hj, h1, h2, h3⟩, rfl⟩
    refine ⟨⟨j, g, hj, by simp⟩, ?_⟩
    cases h : segmentEnd segs j <;> simp_all [Placed.overlaps]

/-- The lowest of a list: none of an empty one, else one of its elements that no other is below (R82). -/
theorem leastInt_spec : ∀ l : List Int, (leastInt l = none ↔ l = []) ∧ ∀ t, leastInt l = some t → t ∈ l ∧ ∀ x ∈ l, t ≤ x := by
  intro l
  induction l with
  | nil => simp [leastInt]
  | cons x rest ih =>
    simp only [leastInt]
    cases h : leastInt rest with
    | none => have := ih.1.mp h; subst this; simp
    | some y =>
      have := ih.2 y h
      refine ⟨by simp; split <;> simp, ?_⟩
      intro t ht
      simp only at ht
      split at ht <;> simp at ht <;> subst ht
      · exact ⟨by simp, by intro z hz; simp at hz; rcases hz with rfl | hz; omega; have := this.2 z hz; omega⟩
      · exact ⟨by simp [this.1], by intro z hz; simp at hz; rcases hz with rfl | hz; omega; exact this.2 z hz⟩

/-- A term is clamped to 0 .. 500 (R82). -/
theorem clampDecel_eq (t : Int) : (clampDecel t : Int) = max 0 (min 500 t) := by
  unfold clampDecel; split <;> try split
  all_goals omega

end Sys2Proof.Machine
end

