-- ==== Sys2Proof/Tests/Slice0.lean ====
section
/-! SUPPORT. Tests on the car, the line and the worked examples of the manual (11 Operating Procedures and the examples of the
chapters), the WellFormed smoke, frames written out byte by byte, and a witness for the premises of every statement. -/

namespace Sys2Proof.Tests

open Sys2Proof Sys2Proof.Machine

set_option Elab.async false

/-! ## The car and the line of the manual -/

/-- The car record of 11. -/
def car : CarConfig :=
  { fallbackConfig with
    address := 23, carLength := 1600, pinionOffset := 900, readerOffset := 300, leafA1 := ⟨150, 130⟩,
    leafA2 := ⟨1320, 130⟩, leafB1 := ⟨150, 130⟩, leafB2 := ⟨1320, 130⟩, rackPitch := 1050, wheelCirc := 28000,
    wheelPulses := 200, eRack := 2, eWheel := 8, uMax := 2000, aSvcRack := 320, aSvcAdh := 120, aSvcDegr := 250,
    buildUp := 800, lostLinkSpeed := 420, rollbackLimit := 40, threshold := 60, hysteresis := 15 }

/-- The six segments of the branch, closed with the line end 410,000 (01, Example: checking a profile). -/
def branch : List Segment :=
  [{ start := 0, endC := none, gradient := 40, kind := .adhesion, limitUp := 1100, limitDown := 1100, shadow := 0 },
   { start := 61200, endC := none, gradient := 65, kind := .adhesion, limitUp := 900, limitDown := 800, shadow := 0 },
   { start := 118500, endC := none, gradient := 70, kind := .transition, limitUp := 400, limitDown := 400, shadow := 0 },
   { start := 120300, endC := none, gradient := 250, kind := .rack, limitUp := 700, limitDown := 600, shadow := 20 },
   { start := 302800, endC := none, gradient := 90, kind := .transition, limitUp := 400, limitDown := 400, shadow := 0 },
   { start := 304600, endC := some 410000, gradient := 30, kind := .adhesion, limitUp := 800, limitDown := 800,
     shadow := 0 }]

/-- Stops 7, 8 and 9 of 11. -/
def platforms : List StopRec :=
  [{ number := 7, reference := 204760, tolerance := 60, sides := .a, marker := some 203410,
     windows := [⟨203200, 203700⟩, ⟨204450, 204900⟩] },
   { number := 8, reference := 205500, tolerance := 60, sides := .b, marker := some 204050, windows := [⟨204000, 205600⟩] },
   { number := 9, reference := 380000, tolerance := 100, sides := .ab, marker := none, windows := [⟨378500, 380100⟩] }]

def closedTable : TableInfo := { state := .closed, check := none, lock := false, unwritten := none }

/-- Every leaf closed and locked, both bands applied, EB ready. -/
def heldLevels : InputLevels where
  a1 := ⟨false, true, true, false⟩
  a2 := ⟨false, true, true, false⟩
  b1 := ⟨false, true, true, false⟩
  b2 := ⟨false, true, true, false⟩
  pb1 := ⟨false, true⟩
  pb2 := ⟨false, true⟩
  ebReady := true

/-- The car in a mode, standing at `c` with uncertainty `u`, held by its brakes, tested, its doors secure, its link up. -/
def standing (m : Mode) (c u : Nat) : State :=
  { State.reset with
    nv := { Nv.blank with segments := branch, stops := platforms, config := some car, profileT := closedTable,
                          stopsT := closedTable, carT := closedTable },
    lrs := { Lrs.reset with settings := { openDwell := 10, warnLead := 2, linkGrace := 6, wheelCirc := 28000 } },
    pou := { Pou.reset with
             fine := c * 100, uBase := u, u := u, posState := .known, standstill := true,
             last := { Pou.reset.last with cHigh := c, u := u, posState := .known, standstill := true, motion := .none } },
    bcu := { Bcu.reset with
             pb1 := { state := .applied, timer := none, demand := .apply },
             pb2 := { state := .applied, timer := none, demand := .apply },
             follow := .confirmed, followTimer := none, ebAvail := true, holdConf := true, test := .passed },
    dcu := { Dcu.reset with
             a1 := LeafRec.reset.lockIt, a2 := LeafRec.reset.lockIt, b1 := LeafRec.reset.lockIt,
             b2 := LeafRec.reset.lockIt, secure := true },
    vru := { Vru.reset with latched := some 23, hunting := true, link := .up },
    ctl := { Ctl.reset with
             mode := m, startTimer := none, profileV := some ⟨.closed, .matched⟩, stopsV := some ⟨.closed, .matched⟩,
             carV := some ⟨.closed, .matched⟩ },
    inp := { levels := heldLevels, pressure := 41, strokes := { a1 := 0, a2 := 0, b1 := 0, b2 := 0 },
             key := false, settling := none, line := [], lineWait := 0 } }

/-- The state a command leaves. -/
def after (c : Instr) (s : State) : State :=
  match exec c s with
  | .next t => t
  | .fault _ => s
  | .refused _ => s

/-- The state a list of commands leaves. -/
def afterAll (cs : List Instr) (s : State) : State := cs.foldl (fun t c => after c t) s

/-- The answer of a request: status, reason, items. -/
def answerTo (c : Instr) (s : State) : Option Answer := (after c s).cmp.inProgress.map InProgress.answer

/-- An authority record. -/
def authority (id start stop : Nat) (d : Direction) (cap : Nat) : Authority :=
  { id := id, start := start, stop := stop, dir := d, cap := cap, expiry := 0, leftMs := none, occupation := .occupied }

/-- The car with a movement authority and its supervision worked out. -/
def running (c u : Nat) : State :=
  recompute ((standing .service c u).onAut (fun a => { a with chain := [authority 530 (c - 3000) (c + 25000) .up 700] }))

/-- Driving: DRIVE_REQUEST(ON) taken (11, Start and brake test, step 7). -/
def driving : State := after (.driveRequest 1#8) (running 100000 200)

/-- The car on the rack at 150,000 with the pinion ENGAGED. -/
def onRack : State :=
  (standing .service 150000 20).onPou (fun p => { p with engagement := .engaged, last := { p.last with engagement := .engaged } })

/-- The car in motion. -/
def moving (s : State) : State := s.onPou (fun p => { p with standstill := false })

/-- The car in TRIP by LOCK_LOST. -/
def tripped : State := after (.lockSwitchChange .a1 false) (moving (running 100000 200))

/-- The same car in START with the first `n` steps of R192 taken, its clock `left` ms from the end. -/
def starting (n left : Nat) : State :=
  let v (k : Nat) : Option Verified := if k ≤ n then some ⟨.closed, .matched⟩ else none
  ((standing .start 0 0).onCtl (fun c =>
    { c with startTimer := some left, carV := v 1, profileV := v 3, stopsV := v 4 })).onVru (fun x =>
      { x with hunting := 2 ≤ n, latched := if 2 ≤ n then some 23 else none })

/-- A leaf put in a state with its timer. -/
def leafIn (l : Leaf) (st : LeafState) (timer : Option Nat) (s : State) : State :=
  refreshDoors (s.onDcu (fun d => d.setLeaf l { d.leaf l with state := st, timer := timer }))

/-- A seek with its good spacings, its reference 1,050 behind the wheel. -/
def seekingWith (good : Nat) (ref : Option Nat) (kind : SeekKind) : Engagement :=
  .seeking { kind := kind, wheelDist := 8400, ref := ref, good := good, fault := false }

/-- The ENTRY seek of 02, Example: an uphill rack entry. -/
def entrySeek : SeekKind := .entry 118500 120300 .up

/-- The car of that example before its eighth good spacing. -/
def entering (good : Nat) (ref : Option Nat) : State :=
  (standing .service 119301 180).onPou (fun p => { p with engagement := seekingWith good ref entrySeek })

/-- A restriction of an origin. -/
def restriction (id start stop : Nat) (o : Origin) : Restriction :=
  { id := id, start := start, stop := stop, limit := 600, applies := .both, origin := o }

/-- 24 restrictions of valley control. -/
def fullList : List Restriction := (List.range 24).map (fun i => restriction (i + 1) (1000 * i) (1000 * i + 500) .valley)

/-- The state with restrictions in force. -/
def restricted (l : List Restriction) (s : State) : State := s.onLrs (fun x => { x with restrictions := l })

/-- The depot, with the run lock clear and the stop table being loaded. -/
def inDepot : State :=
  (standing .depot 1700 200).onNv (fun nv =>
    { nv with stopsT := { closedTable with state := .loading }, stops := [], carT := { closedTable with lock := true } })

/-- An operation in flight. -/
def flying (op : NvOp) (elapsed limit : Nat) (s : State) : State :=
  s.onNvc (fun n => { n with op := some { op := op, limit := limit, elapsed := elapsed } })

/-- A batch of segments with `n` images, 2 declared. -/
def batchOf (n : Nat) (s : State) : State :=
  s.onNvc (fun c => { c with batch := { state := .opened, table := some .profile, declared := 2,
                                        segments := branch.take n, stops := [] } })

/-- The port free again, its answer taken away. -/
def portCleared (s : State) : State := s.onCmp (fun p => { p with inProgress := none })

/-- The same bytes on the line, one each millisecond. -/
def lineOf (bytes : List Byte) (s : State) : State :=
  s.onInp (fun i => { i with line := bytes.map (fun b => { gap := 1, value := b, stopBit := true }) })

/-- The state after `n` steps. -/
def stepped : Nat → State → State
  | 0, s => s
  | n + 1, s =>
    match step s with
    | .next t => stepped n t
    | .fault _ => s
    | .refused _ => s

/-! ## Well-formed commands -/

theorem test_wellFormed_refuses :
    wellFormed (.wbPressureChange 101) = false ∧ wellFormed (.doorSample .a1 60 1001) = false ∧
      wellFormed (.recordExpiry 6) = false ∧ wellFormed (.foreignFrame 0#8) = false ∧
      wellFormed (.foreignFrame 251#8) = false ∧ wellFormed (.carKindFrame 23#8 1#8) = false ∧
      wellFormed (.probe 251#8 0#8) = false ∧ wellFormed (.unknownRequest 1#8) = false ∧
      wellFormed (.putRecord true [1#8]) = false ∧ wellFormed (.writeCarRecord true 0#16 [1#8]) = false := by decide +kernel

theorem test_wellFormed_admits :
    wellFormed (.wbPressureChange 100) = true ∧ wellFormed (.doorSample .a1 60 1000) = true ∧
      wellFormed (.recordExpiry 5) = true ∧ wellFormed (.foreignFrame 250#8) = true ∧
      wellFormed (.carKindFrame 0#8 0x81#8) = true ∧ wellFormed (.unknownRequest 0x0D#8) = true ∧
      wellFormed (.putRecord true (List.replicate 15 0#8)) = true := by decide +kernel

/-! ## Frames written out -/

/-- The check value of the CRC-16 with polynomial 1021 and initial value FFFF (R211). -/
theorem test_crc16_check_value :
    crc16 [0x31#8, 0x32#8, 0x33#8, 0x34#8, 0x35#8, 0x36#8, 0x37#8, 0x38#8, 0x39#8] = 0x29B1#16 := by decide +kernel

/-- 10, Example: one exchange and its attention: 02 01 2D is READ_POSITION. -/
theorem test_request_frame_of_the_example : decodeTransaction false [0x02#8, 0x01#8, 0x2D#8] = some .readPosition := by
  decide +kernel

theorem test_bad_frames :
    decodeTransaction false [0x02#8, 0x01#8, 0x2C#8] = some .badFrame ∧
      decodeTransaction false [0x03#8, 0x01#8, 0x2D#8] = some .badFrame ∧
      decodeTransaction false [0x00#8, 0x00#8, 0x00#8] = some (.readTransaction 3 true) := by decide +kernel

/-- SET_SETTING, DOOR_RELEASE, RESTRICT of the crew and PROGRAM_IDENTITY, their arguments laid out as R214 lists them; a code of no
request (R205). -/
theorem test_request_arguments :
    decodeRequest false 0x20#8 [0x03#8, 0x00#8, 0x0A#8] = some (.setSetting 3#8 10#16) ∧
      decodeRequest false 0x30#8 [0x01#8, 0x02#8] = some (.doorRelease 1#8 2#8) ∧
      decodeRequest false 0x23#8
          [0x00#8, 0x28#8, 0x01#8, 0x5F#8, 0x90#8, 0x01#8, 0x63#8, 0x78#8, 0x01#8, 0x2C#8, 0x03#8] =
        some (.restrict 40#16 90000#24 91000#24 300#16 3#8) ∧
      decodeRequest true 0x57#8 [0x01#8, 0x02#8, 0x03#8, 0x04#8, 0x00#8, 0xFF#8] =
        some (.programIdentity true 0x01020304#32 255#16) ∧
      checkRequest false 0x0D#8 [] = .unknownRequest 0x0D#8 ∧ checkRequest false 0x30#8 [0x01#8] = .badFrame := by decide +kernel

/-- A GRANT body as R213 lays it out: id 530, 97,000 to 125,000, UP, cap 700, expiry 120. -/
theorem test_grant_body :
    decodeBody 23#8 1#8 0x01
        [0x02#8, 0x12#8, 0x01#8, 0x7A#8, 0xE8#8, 0x01#8, 0xE8#8, 0x48#8, 0x01#8, 0x02#8, 0xBC#8, 0x00#8, 0x78#8] =
      some (.grant 23#8 1#8 530#16 97000#24 125000#24 1#8 700#16 120#16) := by decide +kernel

theorem test_no_row_has_bits : decodeTableWord 0 0 = none := by decide +kernel

/-! ## Worked examples -/

/-- 01, Example: checking a profile. -/
theorem test_profile_example :
    profileOk 410000 branch = true ∧
      profileOk 410000 (branch.map (fun g => if g.start = 118500 then { g with kind := .adhesion } else g)) = false := by
  decide +kernel

/-- 02, Example: distance per pulse, and R30: a wheel pulse UP is worth 140. -/
theorem test_wheel_pulse_is_worth_140 :
    (after (.wheelPulse .up) (standing .service 100000 200)).pou.fine = 10000140 := by decide +kernel

/-- 02, Example: an uphill rack entry, steps 4 and 5. -/
theorem test_entry_fix :
    let t := (after .pinionPulse (entering 7 (some 7350))).pou
    t.engagement = .engaged ∧ t.cHigh = 119284 ∧ t.u = 20 ∧ t.dW = 0 := by decide +kernel

/-- 02, Example: three marker pulses. -/
theorem test_marker_examples :
    (let t := after .markerPulse (standing .service 204800 150)
     t.pou.cHigh = 204710 ∧ t.pou.u = 10 ∧ t.cmp.causes = BitVec.twoPow 17 13) ∧
    (let t := after .markerPulse (standing .service 205000 400)
     t.pou.cHigh = 205000 ∧ t.pou.u = 400 ∧ t.cmp.causes = BitVec.twoPow 17 16) ∧
    (after .markerPulse (standing .service 205650 150)).cmp.causes = BitVec.twoPow 17 15 := by decide +kernel

/-- 02, Example: a start on a rack grade: four pulses DOWN of 1,050 pass the limit of 40 cm, three do not. -/
theorem test_rollback_example :
    let back := onRack.onPou (fun p => { p with lastDir := .down })
    (afterAll [.pinionPulse, .pinionPulse, .pinionPulse] back).ssu.state = .advise ∧
      (afterAll [.pinionPulse, .pinionPulse, .pinionPulse, .pinionPulse] back).ssu.trip.map TripRecord.first =
        some .rollback := by decide +kernel

/-- 04, Example: terms over the rack entry, and the worked cases' curves. -/
theorem test_terms_and_curves :
    let s := standing .service 100000 200
    branch.map s.term = [159, 183, 388, 565, 408, 149] ∧
      brakingCurve 300 123 1250 800 = 447 ∧ brakingCurve 0 123 26250 800 = 2000 ∧ brakingCurve 0 149 1300 800 = 386 ∧
      brakingCurve 300 123 780 800 = 300 ∧ brakingCurve 0 5 10800 800 = 316 := by decide +kernel

/-- 11, Start and brake test, step 5: the over-body limit 700 names AUTHORITY 530. -/
theorem test_permitted_speed_at_start :
    let s := running 100000 200
    s.ssu.vPerm = 700 ∧ s.ssu.record.source = .authority 530 ∧ s.ssu.state = .clear ∧ s.ssu.record.overBody = some 700 := by
  decide +kernel

/-- 05, Example: a start on a rack grade, step 1. -/
theorem test_drive_releases_the_bands :
    driving.bcu.traction = true ∧ driving.bcu.pb1.state = .releasing ∧ driving.bcu.wbDemand = .off ∧
      driving.bcu.follow = .following ∧ driving.bcu.holdCmd = false ∧ driving.bcu.holdConf = false := by decide +kernel

/-- 05, Example: a brake test with a slow band, steps 1 and 2. -/
theorem test_brake_test_steps :
    let s := onRack.onBcu (fun b => { b with test := .notDone })
    (answerTo (.brakeTest 2#8) s).map Answer.reason = some .sequence ∧
      (after (.brakeTest 1#8) s).bcu.test = .step1Passed ∧
      (answerTo (.brakeTest 1#8) s).map Answer.items = some [0#8, 1#8] := by decide +kernel

/-- 06, Example: one leaf of two at a short platform: stop 7 and A1 alone are answered. -/
theorem test_short_platform :
    let t := after (.doorRelease 1#8 1#8) (standing .service 204710 10)
    t.dcu.a1.state = .released ∧ t.dcu.a2.state = .locked ∧ t.dcu.sideA.stop = some 7 ∧
      t.cmp.inProgress.map (fun r => r.answer.items) = some [7#8, 1#8, 1#8] := by decide +kernel

/-- 06, Example: a bag in the leaf, samples 1 to 8. -/
theorem test_bag_in_the_leaf :
    let s := leafIn .b2 .closing (some 4000) (standing .service 204710 10)
    let t := afterAll [.doorSample .b2 95 30, .doorSample .b2 45 300, .doorSample .b2 62 320, .doorSample .b2 71 340,
                       .doorSample .b2 78 350, .doorSample .b2 74 355, .doorSample .b2 66 358] s
    t.dcu.b2.state = .closing ∧ (after (.doorSample .b2 61 360) t).dcu.b2.state = .reversing ∧
      (after (.doorSample .b2 61 360) t).dcu.b2.obstruction = some { stroke := 350, peak := 78, attempts := 1 } := by
  decide +kernel

/-- 07, Example: answers, repeats and a restart, steps 1, 2, 3 and 5. -/
theorem test_repeats_are_answered_not_applied :
    let s := running 128000 200
    let g : Instr := .grant 23#8 17#8 302#16 153000#24 180000#24 1#8 700#16 0#16
    let h : Instr := .shorten 23#8 18#8 302#16 170000#24
    (after g s).aut.chain.map Authority.id = [530, 302] ∧ (afterAll [g, g] s).aut = (after g s).aut ∧
      (afterAll [g, h] s).aut.farEnd = some 170000 ∧
      (afterAll [g, h, .revoke 23#8 18#8 302#16] s).aut = (afterAll [g, h] s).aut := by decide +kernel

/-- 03, Example: a full list and the overflow envelope, steps 1 to 3. -/
theorem test_overflow_envelope :
    let s := restricted fullList (standing .service 100000 200)
    let t := after (.restrictFrame 23#8 1#8 900#16 150000#24 152000#24 500#16 3#8) s
    let u := after (.restrictFrame 23#8 2#8 901#16 160000#24 161500#24 350#16 1#8) t
    t.lrs.overflow = some ⟨150000, 152000, 500⟩ ∧ u.lrs.overflow = some ⟨150000, 161500, 350⟩ ∧
      (after (.restrictFrame 23#8 3#8 902#16 155000#24 156000#24 400#16 2#8) u).lrs.overflow =
        some ⟨150000, 161500, 350⟩ := by decide +kernel

/-- 11, Radio shadow and link loss: LOST cuts the chain back to the record of the worst-case front, 302,800. -/
theorem test_link_loss_cuts_the_chain :
    let s := (standing .service 302780 20).onAut (fun a =>
      { a with chain := [authority 610 280000 305000 .up 700, authority 611 305000 330000 .up 700,
                         authority 612 330000 360000 .up 700] })
    let t := after .silenceReachesLostLimit s
    t.vru.link = .lost ∧ t.aut.chain.map Authority.id = [610] ∧ t.ssu.vPerm = 400 := by decide +kernel

/-- 09, Example: a start with a corrupt stop table, steps 1 to 4, on a table of stop 9 alone and an empty profile. -/
theorem test_corrupt_stop_table :
    let s := (starting 0 0).onNv (fun nv =>
      { nv with segments := [], stops := platforms.drop 2, profileT := { closedTable with state := .empty },
                stopsT := { closedTable with check := some 0x0000#16 },
                carT := { closedTable with check := some (nv.checkWord .car) } })
    let t := after .startSequence s
    t.ctl.mode = .ready ∧ t.nv.stopsT.state = .corrupt ∧ t.nv.carT.state = .closed ∧ t.vru.latched = some 23 ∧
      (answerTo .enterService t).map Answer.items = some [2#8, 1#8, 1#8, 2#8, 5#8] := by decide +kernel

/-- 09, Example: a park in a passing loop and a wake. -/
theorem test_park_and_wake :
    let t := after .park (standing .service 100000 120)
    let w := after .wake (t.onCmp (fun p => { p with inProgress := none }))
    t.ctl.mode = .parked ∧ t.vru.xcvr = .held ∧ t.bcu.test = .notDone ∧ w.ctl.mode = .waking ∧ w.pou.u = 170 ∧
      w.vru.xcvr = .on ∧ w.vru.link = .none ∧ (after .settleTimerExpiry w).ctl.mode = .service := by decide +kernel

/-- 08, Example: a commit cut short by the supply, steps 5 and 6. -/
theorem test_commit_cut_short :
    let s := (batchOf 2 inDepot).onNv (fun nv =>
      { nv with segments := [], profileT := { closedTable with state := .loading } })
    let t := after (.commitBatch true) s
    let u := after (.supplyLockout { written := 1, mask := 0, lineEnd := false, lockCleared := false }) t
    t.nv.profileT.state = .incomplete ∧ t.nvc.op.map InFlight.limit = some 10 ∧ u.nv.segments.length = 1 ∧
      u.nvc.batch.state = .none ∧ u.nvc.opRec = some { op := .commit .profile, result := .faultSupply } := by decide +kernel

/-- R1: the end DONE of PROGRAM_IDENTITY sends a record-change notice, at which supervision is worked out anew. -/
theorem test_identity_sends_a_notice :
    let s := flying (.programIdentity { serial := 1, cls := 2 }) 0 50 (inDepot.onSsu (fun u => { u with vPerm := 5 }))
    (after .nvWriteConfirmed s).ssu.vPerm ≠ 5 ∧ (after .nvWriteConfirmed s).nv.idLock = true ∧
      (after (.nvTimeLimit { written := 0, mask := 0, lineEnd := false, lockCleared := false }) s).ssu.vPerm = 5 := by
  decide +kernel

/-- The last `n` bytes of what a request answers. -/
def itemsEnd (n : Nat) (c : Instr) (s : State) : Option (List Byte) :=
  (answerTo c s).map (fun a => a.items.drop (a.items.length - n))

/-- R3, R8: the end of the last record is sent in a CLOSED table only; a segment image sends its end after a presence byte. -/
theorem test_read_segment_end :
    let items := fun s : State => (answerTo (.readSegment 5#16) s).map (fun a => (a.items.drop 3).take 4)
    let open_ := fun x : TableState => (standing .service 204710 10).onNv (fun nv => { nv with profileT := { closedTable with state := x } })
    items (standing .service 204710 10) = some [1#8, 0x06#8, 0x41#8, 0x90#8] ∧ items (open_ .corrupt) = some [0#8, 0#8, 0#8, 0#8] ∧
      items (open_ .incomplete) = some [0#8, 0#8, 0#8, 0#8] ∧
      itemsEnd 3 (.readSegment 5#16) (open_ .corrupt) = some [0#8, 6#8, TableState.corrupt.code] := by decide +kernel

/-- R123, R148: a released band brake and an open leaf, each with its switches in the order of log 62. -/
theorem test_switch_items :
    (bandItems State.reset.bcu.pb1 ⟨true, false⟩).drop 2 = [1#8, 0#8] ∧
      ((leafItems LeafRec.reset ⟨true, false, false, true⟩).drop 1).take 4 = [1#8, 0#8, 0#8, 1#8] ∧
      ((leafItems LeafRec.reset ⟨false, true, false, false⟩).drop 1).take 4 = [0#8, 1#8, 0#8, 0#8] := by decide +kernel

/-- R211: an index that names no segment is two bytes of 0; a time is four bytes in ms, the open dwell of 10 s first. -/
theorem test_index_and_time_items :
    itemsEnd 2 .readPosition (State.reset.onCmp (fun p => { p with inProgress := none })) = some [0#8, 0#8] ∧
      (answerTo .readSettings (standing .service 204710 10)).map (fun a => a.items.take 4) = some [0x00#8, 0x00#8, 0x27#8, 0x10#8] := by
  decide +kernel

/-- R163, R168: the report timer 300 ms after it started is shown as 300. -/
theorem test_report_timer_is_shown_as_elapsed :
    { Vru.reset with reportTimer := some 1700 }.reportElapsed = 300 ∧ Vru.reset.reportElapsed = 0 := by decide

/-- 10, Example: one exchange and its attention, steps 1 to 4. -/
theorem test_exchange_example :
    let s := afterAll [.readPosition, .responseReady] (standing .service 204800 150)
    let t := after (.readTransaction 5 true) s
    s.cmp.rdy = true ∧ (s.cmp.waiting.map (fun f => f.take 4)) = some [47#8, 0#8, 0#8, 1#8] ∧
      t.cmp.waiting = s.cmp.waiting ∧ t.cmp.readPos = 0 ∧ t.cmp.rdy = true := by decide +kernel

/-! ## Witnesses: for each statement with premises, states and operands that meet them, clause by clause -/

/-- Whether an outcome is a next state. -/
def ran : Host.Outcome State Fault Refusal → Bool
  | .next _ => true
  | .fault _ => false
  | .refused _ => false

theorem next_of_ran {o : Host.Outcome State Fault Refusal} (h : ran o = true) : ∃ t : State, o = .next t := by
  cases o with
  | next t => exact ⟨t, rfl⟩
  | fault f => exact absurd h (by simp [ran])
  | refused r => exact absurd h (by simp [ran])

theorem exec_after {c : Instr} {s : State} (h : ran (exec c s) = true) : exec c s = .next (after c s) := by
  obtain ⟨t, ht⟩ := next_of_ran h
  rw [after, ht]

/-- At stop 7, SERVICE, within its tolerance. -/
def atStop : State := standing .service 204710 10

/-- Standing in READY. -/
def ready : State := standing .ready 100000 200

/-- Two records that join. -/
def twoRecords : Aut :=
  { chain := [authority 530 97000 125000 .up 700, authority 302 125000 153000 .up 700], selected := .up }

/-- START with the car record MATCHED, the stop table to be MISMATCHED and the profile EMPTY. -/
def corruptStart : State :=
  (starting 0 1000).onNv (fun nv =>
    { nv with segments := [], stops := platforms.drop 2, profileT := { closedTable with state := .empty },
              stopsT := { closedTable with check := some 0x0000#16 },
              carT := { closedTable with check := some (nv.checkWord .car) } })

theorem witness_EmptyQueueLetsAMillisecondPass :
    State.reset.pending = [] ∧ (elapse 1 State.reset).startDue = false ∧ (elapse 1 (starting 0 802)).startDue = false ∧
      (elapse 1 atStop).startDue = false := by decide +kernel

theorem witness_FullResetEffect : (standing .service 100000 200).nvc.op = none := by decide

theorem witness_TractionStaysGuarded :
    let s := driving.withPending [.wheelPulse .up]
    s.summaryTrue ∧ s.guarded ∧ s.bcu.permission = true ∧ s.bcu.traction = true ∧ ran (step s) = true := by
  decide +kernel

theorem witness_LinesFollowThePort :
    (let s := (afterAll [.readPosition, .responseReady] (standing .service 204800 150)).withPending [.markerPulse]
     s.linesTrue ∧ s.cmp.rdy = true ∧ ran (step s) = true) ∧
    (atStop.onVru (fun v => { v with queue := [.report .linkUp none] })).vru.queueBounded :=
  ⟨by decide +kernel, by decide, by decide⟩

theorem witness_ChainStaysWellFormed :
    twoRecords.wellFormed ∧ ran (step ((running 100000 200).withPending [.recordExpiry 0])) = true :=
  ⟨⟨by decide, by decide, by decide, rfl, trivial⟩, by decide +kernel⟩

theorem witness_RestrictionListStaysWellFormed :
    (restricted [restriction 1 0 500 .valley, restriction 2 1000 1500 .crew] atStop).lrs.wellFormed ∧
      (restricted [restriction 1 0 500 .valley] (atStop.onLrs (fun l => { l with closure := [7, 9] }))).recordsTrue ∧
      ran (step ((restricted [restriction 1 0 500 .valley] atStop).withPending [.lift 1#16])) = true :=
  ⟨⟨by decide, ⟨by decide, trivial⟩, by decide, by decide⟩,
    ⟨⟨by decide, by decide⟩, fun h => absurd rfl h, fun f h => by cases h⟩, by decide +kernel⟩

theorem witness_RunLockProtectsTheRecords :
    (let s := (ready.onNvc (fun n => { n with runLock := true })).withPending [.eraseTable true 1#8]
     s.storeGuarded ∧ s.nvc.runLock = true ∧ ran (step s) = true ∧
       (after (.programIdentity true 9#32 1#16) s).nv = s.nv) ∧
    (let s := (flying (.erase .stops) 5 3000 inDepot).withPending [.nvWriteConfirmed]
     s.storeGuarded ∧ s.nvc.op ≠ none ∧ ran (step s) = true) ∧
    (flying (.commit .profile) 0 10 (batchOf 2 (inDepot.onNv (fun nv => { nv with segments := [] })))).storeOrdered ∧
    atStop.storeOrdered :=
  ⟨by decide +kernel, by decide +kernel, ⟨by decide, by decide, fun _ _ _ => by decide⟩,
    by decide, by decide, fun _ _ _ => by decide⟩

theorem witness_PositionStaysInRange :
    (let s := (onRack.onPou (fun p => { p with fine := 1677721599, dR := 1677721599 })).withPending [.pinionPulse]
     s.pou.inRange ∧ s.pou.u ≤ 65535 ∧ ran (step s) = true) ∧ onRack.fixesInRange :=
  ⟨by decide +kernel, fun c h => by
    rcases h with h | h
    · cases h; decide
    · cases h⟩

theorem witness_UncertaintyFallsOnlyAtAFix :
    (let s := entering 7 (some 7350)
     s.pou.u ≤ 65535 ∧ ran (exec .pinionPulse s) = true ∧ (after .pinionPulse s).pou.u < s.pou.u) ∧
    (let s := standing .service 204800 150
     s.pou.u ≤ 65535 ∧ ran (exec .markerPulse s) = true ∧ (after .markerPulse s).pou.u < s.pou.u) ∧
    (let s := standing .depot 204800 600
     s.pou.u ≤ 65535 ∧ ran (exec (.setPosition 2000#24) s) = true ∧ (after (.setPosition 2000#24) s).pou.u < s.pou.u) := by
  decide +kernel

theorem witness_TripIsLeftOnlyByReset :
    tripped.ssu.state = .trip ∧ tripped.ssu.trip.map TripRecord.first = some .lockLost ∧
      ran (exec .pinionPulse tripped) = true ∧
      ran (exec .tripReset (tripped.onPou (fun p => { p with standstill := true }))) = true := by decide +kernel

theorem witness_ModeMovesOnlyByItsTable :
    exec .park atStop = .next (after .park atStop) ∧ (after .park atStop).ctl.mode = .parked :=
  ⟨exec_after (by decide +kernel), by decide +kernel⟩

theorem witness_LeafIsReleasedOnlyAtAStop :
    ran (exec (.doorRelease 1#8 1#8) atStop) = true ∧ (atStop.dcu.leaf .a1).state = .locked ∧
      ((after (.doorRelease 1#8 1#8) atStop).dcu.leaf .a1).state.inCycle = true ∧ atStop.ctl.mode = .service := by
  decide +kernel

theorem witness_RequestFramesRoundTrip :
    (let i : Instr := .restrict 40#16 90000#24 91000#24 300#16 3#8
     wellFormed i = true ∧ (encodeRequest i).map Prod.fst = some 0x23#8) ∧
    (let i : Instr := .writeCarRecord true 7#16 (List.replicate 66 1#8)
     wellFormed i = true ∧ (encodeRequest i).map (fun x => x.2.length) = some 68) := by decide +kernel

theorem witness_ValleyFramesRoundTrip :
    let i : Instr := .grant 23#8 1#8 530#16 97000#24 125000#24 1#8 700#16 120#16
    wellFormed i = true ∧ (encodeBody i).map Prod.fst = some 23#8 ∧
      (encodeBody (.stopClose 0#8 2#8 7#8)).map Prod.fst = some 0#8 := by decide +kernel

theorem witness_EveryCommandStaysInItsBlocks : exec .park atStop = .next (after .park atStop) :=
  exec_after (by decide +kernel)

/-- R192: the clock takes step 1 at 200 ms, the address at 400 ms and the two tables at 600 and 800 ms; the command carries out what
is left. -/
theorem witness_StartIsTakenStepByStep :
    (∀ n ∈ [0, 1, 2, 3], (starting n (801 - 200 * n)).pending = [] ∧ (starting n (801 - 200 * n)).ctl.mode = .start ∧
      (elapse 1 (starting n (801 - 200 * n))).startDue = true ∧ (elapse 1 (starting n (802 - 200 * n))).startDue = false) ∧
    ((stepped 1 (starting 0 801)).ctl.carV.isSome && (stepped 1 (starting 0 801)).vru.hunting == false) = true ∧
    (let t := stepped 1 (starting 1 601)
     t.vru.hunting = true ∧ t.vru.latched = some 23 ∧ t.ctl.profileV = none) ∧
    (stepped 1 (starting 2 401)).ctl.profileV.isSome = true ∧ (stepped 1 (starting 3 201)).ctl.stopsV.isSome = true ∧
    (stepped 1 (starting 4 1)).pending = [.startSequence] ∧
    (let t := after .startSequence (starting 2 500)
     t.ctl.mode = .ready ∧ t.ctl.carV = some ⟨.closed, .matched⟩ ∧ t.ctl.stopsV.isSome = true) := by decide +kernel

/-- R192: a STOP_CLOSE heard in START is UNKNOWN_ID until the stop table has been verified, and then TAKEN. -/
theorem test_stop_close_before_verification :
    let s := (starting 2 500).onNv (fun nv => { nv with stopsT := { closedTable with check := some (nv.checkWord .stops) } })
    let t := after .startSequence s
    (after (.stopClose 23#8 1#8 7#8) s).vru.lastTaken.map LastTaken.outcome = some .unknownId ∧
      (after (.stopClose 23#8 1#8 7#8) s).lrs.closure = [] ∧
      (after (.stopClose 23#8 1#8 7#8) t).vru.lastTaken.map LastTaken.outcome = some .taken ∧
      (after (.stopClose 23#8 1#8 7#8) t).lrs.closure = [7] := by decide +kernel

theorem witness_StartVerifiesEveryTable :
    let s := corruptStart.onLrs (fun l => { l with closure := [9] })
    (∀ x ∈ [Table.profile, .stops, .car], s.ctl.verified x = none) ∧ (starting 1 0).ctl.verified .car ≠ none ∧
    (after .startSequence s).lrs.closure = [] ∧ s.ctl.mode = .start ∧ s.nvc.op = none ∧ (s.nv.info .profile).state ≠ .closed ∧
      (s.nv.info .car).state = .closed ∧ (s.nv.info .car).check = some (s.nv.checkWord .car) ∧
      (s.nv.info .stops).state = .closed ∧ (s.nv.info .stops).check ≠ some (s.nv.checkWord .stops) := by
  decide +kernel

theorem witness_LeavesTakeTheirSwitchesAfterReset :
    State.reset.inp.settling ≠ none ∧ atStop.inp.settling = none := by decide

theorem witness_WheelPulseIsCounted :
    (atStop.pou.engagement.state ≠ .engaged ∧ 140 = atStop.lrs.settings.wheelCirc / atStop.cfg.wheelPulses) ∧
    (let s := onRack.onPou (fun p => { p with silenceDist := 3009 })
     s.pou.engagement = .engaged ∧ s.pou.silenceDist + 140 < 3 * s.cfg.rackPitch) ∧
    (let s := onRack.onPou (fun p => { p with silenceDist := 3010 })
     s.pou.engagement = .engaged ∧ 3 * s.cfg.rackPitch ≤ s.pou.silenceDist + 140 ∧
       s.pinionSegment.map (fun p => p.seg.kind) = some .rack) := by decide +kernel

/-- The boundary spacings of R41: 945 and 1,155 are good, 944 is not, at a pitch of 1,050. -/
theorem witness_PinionPulseByEngagement :
    atStop.pou.engagement = .disengaged ∧ onRack.pou.engagement = .engaged ∧
      (entering 7 none).pou.engagement = seekingWith 7 none entrySeek ∧
      (entering 6 (some 7455)).pou.engagement = seekingWith 6 (some 7455) entrySeek ∧
      9 * (entering 6 (some 7455)).cfg.rackPitch ≤ 10 * (8400 - 7455) ∧
      10 * (8400 - 7455) ≤ 11 * (entering 6 (some 7455)).cfg.rackPitch ∧
      ((after .pinionPulse (entering 6 (some 7455))).pou.engagement = .seeking
        { kind := entrySeek, wheelDist := 8400, ref := some 8400, good := 7, fault := false }) ∧
      ((after .pinionPulse (entering 7 (some 7456))).pou.engagement = .seeking
        { kind := entrySeek, wheelDist := 8400, ref := some 8400, good := 0, fault := false }) ∧
      (after .pinionPulse (entering 7 (some 7245))).pou.engagement = .engaged := by decide +kernel

theorem witness_MarkerPulseFixesOnOneMarker :
    (let found := fun s : State => (markerLookup s.lineStops s.readerPoint (s.pou.u + 100)).length
     found (standing .service 205650 150) = 0 ∧ found (standing .service 204800 150) = 1 ∧
       found (standing .service 205000 400) = 2) ∧
    atStop.pou.posState ≠ .unknown ∧ State.reset.pou.posState = .unknown := by decide +kernel

theorem witness_StandstillIsDeclared : (moving driving).pou.standstill = false ∧
    (moving atStop).bcu.holdConf = true ∧ (moving atStop).bcu.permission = false := by decide +kernel

theorem witness_PositionUpdateIsPublished :
    atStop.pou.standstill = true ∧ driving.pou.last.posState = .known ∧
      (let s := moving (atStop.onPou (fun p => { p with window := [⟨180, 4000⟩, ⟨181, 4000⟩], sinceUpdate := 0 }))
       s.pou.standstill = false ∧ (after .positionUpdate s).pou.vMeas = 200) ∧
      (standing .service 100000 2001).cfg.uMax < (standing .service 100000 2001).pou.u := by decide +kernel

/-- The car with its pinion point at `x`, the segment found before that of the point `y`. -/
def pinionAt (x : Nat) (y : Option Nat) : State :=
  (standing .service (x + 700) 20).onPou (fun p =>
    { p with prevSeg := y.bind (fun c => (standing .service (c + 700) 20).pinionSegment) })

/-- A car SEEKING with its pinion point at `x`. -/
def seekingAt (x : Nat) (k : SeekKind) : State :=
  (pinionAt x none).onPou (fun p => { p with engagement := seekingWith 3 none k })

/-- 02, R40: off the line, in ADHESION and on RACK; into a TRANSITION from below, from above, from the rack and from nowhere. -/
theorem witness_PositionUpdateSeeks :
    (pinionAt 410000 none).pinionSegment = none ∧ (pinionAt 410000 none).pou.engagement = .disengaged ∧
      (pinionAt 100000 none).pinionSegment.map (fun p => p.seg.kind) = some .adhesion ∧
      (after .positionUpdate (pinionAt 120300 none)).pou.engagement =
        .seeking { kind := .onRack, wheelDist := 0, ref := none, good := 0, fault := false } ∧
      (after .positionUpdate (pinionAt 118500 (some 118499))).pou.engagement =
        .seeking { kind := entrySeek, wheelDist := 0, ref := none, good := 0, fault := false } ∧
      (after .positionUpdate (pinionAt 304599 (some 304600))).pou.engagement =
        .seeking { kind := .entry 304600 302800 .down, wheelDist := 0, ref := none, good := 0, fault := false } ∧
      (after .positionUpdate (pinionAt 302800 (some 302799))).pou.engagement = .disengaged ∧
      (after .positionUpdate (pinionAt 118500 none)).pou.engagement = .disengaged ∧
      State.reset.pou.posState = .unknown := by decide +kernel

/-- R43: an ENTRY seek 199 and 200 cm past the rack boundary, and out of the line and into ADHESION; R65, R66 and R166: a record trimmed
at the boundary, one that becomes OCCUPIED, and the link judged at 4 s and at the limit. -/
theorem witness_PositionUpdateFaultsAndTrims :
    (after .positionUpdate (seekingAt 120499 entrySeek)).pou.engagement = seekingWith 3 none entrySeek ∧
      (after .positionUpdate (seekingAt 120500 entrySeek)).pou.engagement =
        .seeking { kind := entrySeek, wheelDist := 8400, ref := none, good := 3, fault := true } ∧
      (after .positionUpdate (seekingAt 120500 entrySeek)).ssu.state = .trip ∧
      (after .positionUpdate (seekingAt 118499 entrySeek)).pou.engagement = .disengaged ∧
      (after .positionUpdate (seekingAt 410000 entrySeek)).pou.engagement = .disengaged ∧
      (after .positionUpdate onRack).pou.engagement = .engaged ∧
      (let s := (standing .service 130000 200).onAut (fun _ => twoRecords)
       let t := after .positionUpdate s
       s.vru.link ≠ .lost ∧ t.vru.link ≠ .lost ∧ t.aut.chain = [authority 302 125000 153000 .up 700] ∧
         t.cmp.causes.getLsbD 4 = true) ∧
      (let r := { authority 302 125000 153000 .up 700 with occupation := .ahead }
       let s := (standing .service 124800 200).onAut (fun _ => { chain := [r], selected := .up })
       (after .positionUpdate s).aut.chain = [authority 302 125000 153000 .up 700]) ∧
      (let s := (running 100000 200).onVru (fun v => { v with silence := 3980 })
       s.pou.sinceUpdate = 0 ∧ (after .positionUpdate s).vru.link = .silent) ∧
      (let s := (running 100000 200).onVru (fun v => { v with silence := 9980 })
       (after .positionUpdate s).vru.link = .lost) := by decide +kernel

/-- A record AHEAD with a time left, whose start the car's front has passed (R68). -/
def aheadFor (left : Nat) : State :=
  (standing .service 100000 200).onAut (fun _ => { chain :=
    [{ authority 530 97000 125000 .up 700 with leftMs := some left, occupation := .ahead }], selected := .up })

/-- R67, R68: a time that ends by the 20 ms boundary retires the record before the update can occupy it; one that ends a millisecond
later is stopped by the occupation. -/
theorem test_expiry_and_occupation :
    (after .positionUpdate (aheadFor 20)).aut.chain = [] ∧
      (after .positionUpdate (aheadFor 20)).cmp.causes = BitVec.twoPow 17 4 ∧
      (after .positionUpdate (aheadFor 21)).aut.chain =
        [{ authority 530 97000 125000 .up 700 with leftMs := some 1 }] ∧
      (after .positionUpdate (aheadFor 21)).cmp.causes = 0 := by decide +kernel

/-- R165, R166: the limit of 10 s is reached before an update that finds the front in a shadow of 20 s; R33, R34: standstill reached by
the boundary is published with the update. -/
theorem test_limit_and_standstill_before_update :
    (let s := (standing .service 150000 20).onVru (fun v => { v with silence := 9980 })
     let t := after .positionUpdate s
     t.vru.link = .lost ∧ t.vru.shadow = 20 ∧ t.lostLimit = 30000) ∧
    (let s := (standing .service 150000 20).onVru (fun v => { v with silence := 9979 })
     (after .positionUpdate s).vru.link = .silent) ∧
    (let s := (moving atStop).onPou (fun p => { p with sincePulse := 980, window := [⟨0, 4000⟩] })
     (after .positionUpdate s).pou.last.standstill = true ∧ (after .positionUpdate s).pou.vMeas = 0) ∧
    (let s := (moving atStop).onPou (fun p => { p with sincePulse := 979, window := [⟨0, 4000⟩] })
     (after .positionUpdate s).pou.last.standstill = false ∧ (after .positionUpdate s).pou.vMeas = 200) := by decide +kernel

/-- The running car with v_perm 700, in motion at a speed. -/
def runningAt (v : Nat) : State := moving ((running 100000 200).onPou (fun p => { p with window := [⟨0, 20 * v⟩] }))

/-- R90 to R95 at an update: 670 stays CLEAR, 671 is ADVISE, 701 INTERVENE and 751 TRIP, with its cause and record; in TRIP the set grows. -/
theorem witness_PositionUpdateSupervises :
    (let s := runningAt 670
     (∀ r ∈ s.aut.chain, r.leftMs = none) ∧ s.pou.engagement = .disengaged ∧ s.ssu.state = .clear ∧
       (after .positionUpdate s).vru.link = s.vru.link ∧ (after .positionUpdate s).ssu.vPerm = 700 ∧
       (after .positionUpdate s).ssu.state = .clear ∧ (after .positionUpdate s).cmp.causes = 0) ∧
    (let t := after .positionUpdate (runningAt 671)
     t.ssu.state = .advise ∧ t.cmp.causes = BitVec.twoPow 17 2) ∧
    (let t := after .positionUpdate (runningAt 701)
     t.ssu.state = .intervene ∧ t.cmp.causes = BitVec.twoPow 17 1) ∧
    (let t := after .positionUpdate (runningAt 751)
     t.ssu.state = .trip ∧ t.cmp.causes.getLsbD 0 = true ∧
       t.ssu.trip = some { first := .overspeed, cHigh := 100000, vMeas := 751, vPerm := 700, set := 1#7 }) ∧
    (let s := tripped.onPou (fun p => { p with window := [⟨0, 20 * 751⟩] })
     s.ssu.state = .trip ∧ s.ssu.trip.map TripRecord.set = some 16#7 ∧
       (after .positionUpdate s).ssu.trip.map TripRecord.set = some 17#7) := by decide +kernel

theorem witness_PermittedSpeedIsTheLowest :
    ready.ctl.mode ≠ .service ∧ ready.ctl.mode ≠ .depot ∧ atStop.ctl.mode = .service ∧ atStop.aut.chain = [] ∧
      inDepot.ctl.mode = .depot ∧
      (let s := (running 100000 200).onVru (fun v => { v with link := .lost })
       s.vru.link = .lost ∧ s.permitted = 420) := by decide +kernel

theorem witness_BrakingCurveIsTheIntegerRoot :
    brakingCurve 300 123 800 800 = 300 ∧ brakingCurve 0 1 2000800 800 = 2000 ∧ brakingCurve 0 1 2000801 800 = 2000 ∧
      brakingCurve 300 123 1250 800 = 447 := by decide +kernel

/-- The limits of R90 at v_perm 700, W 30 and I 50: 670 is CLEAR, 671 and 700 are ADVISE, 701 and 750 INTERVENE, 751 TRIP. -/
theorem witness_SupervisionStateMoves :
    supNext .advise 670 700 30 50 false = (.clear, none) ∧ supNext .clear 671 700 30 50 false = (.advise, none) ∧
      supNext .clear 700 700 30 50 false = (.advise, none) ∧ supNext .clear 701 700 30 50 false = (.intervene, none) ∧
      supNext .clear 750 700 30 50 false = (.intervene, none) ∧
      supNext .clear 751 700 30 50 false = (.trip, some .overspeed) ∧
      supNext .intervene 700 700 30 50 true = (.trip, some .ebLostOnRack) ∧
      supNext .intervene 671 700 30 50 false = (.intervene, none) := by decide

/-- R76: one event each, of the chain, the direction, the restriction list, the closure set, the mode, EB availability and the link; the
last record of a car at 600 retired trips it. -/
theorem witness_CommandsRecompute :
    (let s := (runningAt 600).onAut (fun a => { a with chain := a.chain.map (fun r =>
       { r with leftMs := some 0, occupation := .ahead }) })
     let u := s.onPou (fun p => { p with last := { p.last with vMeas := 600 } })
     (after (.recordExpiry 0) u).aut ≠ u.aut ∧ u.ssu.state = .clear ∧
       (after (.recordExpiry 0) u).ssu.trip = some { first := .overspeed, cHigh := 100000, vMeas := 600, vPerm := 0, set := 1#7 }) ∧
    (let s := running 100000 200
     s.vru.link = .up ∧ (∀ c ∈ [Instr.grant 23#8 1#8 302#16 125000#24 153000#24 1#8 700#16 0#16,
         .shorten 23#8 1#8 530#16 120000#24, .revoke 23#8 1#8 530#16], (after c s).aut ≠ s.aut) ∧
       (∀ c ∈ [Instr.restrict 40#16 90000#24 91000#24 300#16 3#8,
         .restrictFrame 23#8 1#8 41#16 90000#24 91000#24 300#16 3#8, .stopClose 23#8 1#8 7#8], (after c s).lrs ≠ s.lrs)) ∧
    (let s := (restricted [restriction 1 0 500 .valley, restriction 2 600 700 .crew] (running 100000 200)).onLrs (fun l =>
       { l with closure := [7], overflow := some ⟨0, 500, 300⟩ })
     ∀ c ∈ [Instr.lift 2#16, .liftFrame 23#8 1#8 1#16, .flushOverflow 23#8 1#8, .stopOpen 23#8 1#8 7#8],
       (after c s).lrs ≠ s.lrs) ∧
    ((after (.selectDirection 2#8) ready).aut ≠ ready.aut ∧ (after .enterService ready).ctl.mode ≠ .ready ∧
      (after (.enterDepot true) ready).ctl.mode ≠ .ready ∧ (after .park atStop).ctl.mode ≠ .service) ∧
    (let s := (standing .waking 100000 200).onCtl (fun c => { c with settle := some 0 })
     (after .settleTimerExpiry s).ctl.mode = .service) ∧
    ((after (.ebReadyChange false) atStop).bcu.ebAvail ≠ atStop.bcu.ebAvail ∧
      (let s := atStop.onBcu (fun b => { b with test := .running5, stepTimer := some 0, ebAvail := false, ebDegraded := true })
       (after .step5WatchEnd s).bcu.ebAvail = true)) ∧
    (after .silenceReaches4s atStop).vru.link = .silent ∧
    (let s := atStop.onVru (fun v => { v with link := .silent })
     (after .silenceReachesLostLimit s).vru.link = .lost) := by decide +kernel

theorem witness_RollbackTripsTheCar :
    let s := (running 100000 200).onPou (fun p => { p with rollback := 3860 })
    s.pou.engagement = .disengaged ∧ Direction.down ≠ s.aut.selected ∧ s.ctl.mode ≠ .start ∧ s.ctl.mode ≠ .ready ∧
      s.ssu.state ≠ .trip ∧ s.pou.rollbackReported = false ∧
      s.cfg.rollbackLimit * 100 = min (s.pou.rollback + s.lrs.settings.wheelCirc / s.cfg.wheelPulses) 6553500 ∧
      s.vru.xcvr = .on ∧
      (let r := moving (s.onBcu (fun b => { b with test := .running2 }))
       r.pou.standstill = false ∧ r.bcu.test.running = some 2 ∧
         (after (.wheelPulse .down) r).bcu.testRec.map TestRecord.reason = some .abortTrip) := by decide +kernel

theorem witness_EvaluationSetsTheOutputs :
    (let s := driving.onBcu (fun b => { b with wbFault := true })
     s.bcu.holdCmd = false ∧ (bcuEval s).bcu.holdCmd = true ∧ (bcuEval s).bcu.pb1.demand = .apply) ∧
    (let s := onRack.onSsu (fun u => { u with state := .trip })
     (bcuEval s).ssu.state = .trip ∧ (bcuEval s).engaged = true ∧ (bcuEval s).bcu.wbDemand = .hold) ∧
    (let s := (running 100000 200).onBcu (fun b => { b with driveReq := true })
     s.bcu.traction = false ∧ (bcuEval s).bcu.traction = true) ∧
    (atStop.bcu.test.running = none ∧ atStop.summaryTrue ∧ atStop.guarded ∧ (bcuEval atStop).ssu.state ≠ .trip ∧
      (bcuEval atStop).bcu.holdCmd = atStop.bcu.holdCmd ∧ (bcuEval atStop).bcu.traction = atStop.bcu.traction) := by
  decide +kernel

/-- R138: holding lost by the pressure returns a RELEASED leaf to LOCKED, and the leaf in its cycle goes on. -/
theorem witness_HoldingIsLost :
    let s := leafIn .a1 .released none (leafIn .a2 .opened (some 9) atStop)
    s.bcu.holdConf = true ∧ s.bcu.holdCmd = true ∧ s.bcu.driveReq = false ∧ s.bcu.test.running = none ∧
      s.ssu.state = .advise ∧ s.dcu.a1.state = .released ∧ (after (.wbPressureChange 29) s).bcu.holdConf = false ∧
      (after (.wbPressureChange 51) s).bcu.holdConf = false ∧ (after (.wbPressureChange 30) s).dcu.a1.state = .released ∧
      (after (.wbPressureChange 29) s).dcu.a1.state = .locked ∧
      (after (.wbPressureChange 29) s).dcu.a2 = s.dcu.a2 := by decide +kernel

/-- A brake test in a step on its timer. -/
def testing (x : TestState) (timer : Option Nat) : State := atStop.onBcu (fun b => { b with test := x, stepTimer := timer })

/-- The band brakes in a state on a timer. -/
def bandsIn (st : BandState) (timer : Option Nat) (s : State) : State :=
  s.onBcu (fun b => { b with pb1 := { b.pb1 with state := st, timer := timer }, pb2 := { b.pb2 with state := st, timer := timer } })

theorem witness_EbReadyMovesAvailability :
    atStop.inp.settling = none ∧ atStop.bcu.test ≠ .running5 ∧ atStop.bcu.ebAvail = true ∧
      (after (.ebReadyChange false) atStop).bcu.ebAvail = false ∧ (testing .running5 (some 500)).inp.settling = none ∧
      (testing .running5 (some 500)).bcu.test = .running5 := by decide +kernel

theorem witness_BandBrakesMoveAndFault :
    ((atStop.bcu.band .pb1).state = .applied ∧
      shownApplied (setBandSwitch .applied false (bandLevels atStop.inp.levels .pb1)) = false ∧
      atStop.bcu.test.running = none) ∧
    (let s := bandsIn .released none (moving onRack)
     (s.bcu.band .pb2).state = .released ∧
       shownReleased (setBandSwitch .released false (bandLevels s.inp.levels .pb2)) = false ∧
       s.pou.standstill = false ∧ s.engaged = true) ∧
    (let s := bandsIn .applying (some 800) atStop
     (s.bcu.band .pb1).state = .applying ∧ (s.bcu.band .pb1).demand = .apply ∧ s.bcu.driveReq = false ∧
       shownApplied (setBandSwitch .applied true (bandLevels s.inp.levels .pb1)) = true ∧
       (s.bcu.band .pb1).timer ≠ none) ∧
    (let s := bandsIn .fault none atStop
     (s.bcu.band .pb1).state = .fault ∧ s.bcu.test.running = none) ∧
    (let s := bandsIn .releasing (some 0) (testing .running2 none)
     (s.bcu.band .pb1).state = .releasing ∧ (s.bcu.band .pb1).timer ≠ none ∧ s.bcu.test.running ≠ none ∧
       s.bcu.test.running = some 2 ∧ cycledBand 2 = some .pb1) ∧
    (let s := moving (driving.onInp (fun i => { i with levels := { i.levels with pb1 := ⟨false, false⟩ } }))
     (s.bcu.band .pb1).state = .releasing ∧ (s.bcu.band .pb1).demand = .release ∧
       shownReleased (setBandSwitch .released true (bandLevels s.inp.levels .pb1)) = true ∧
       s.bcu.test.running = none ∧ s.pou.standstill = false ∧ s.ssu.state ≠ .trip ∧ s.summaryTrue) := by
  decide +kernel

/-- Step 2 with PB1 in a state and demand, its switches at `l`. -/
def cycling (st : BandState) (d : BandDemand) (l : BandLevels) : State :=
  (testing .running2 none).onBcu (fun b => { b with pb1 := { state := st, timer := some 500, demand := d } }) |>.onInp
    (fun i => { i with levels := { i.levels with pb1 := l } })

/-- R119: the cycled brake released and applied again; the other brake's switch lost in step 2. -/
theorem witness_BandBrakesOfATestStep :
    (let s := cycling .releasing .release ⟨false, false⟩
     s.bcu.test.running = some 2 ∧ (s.bcu.band .pb2).state = .applied ∧ (s.bcu.band .pb2).demand = .apply ∧
       35 ≤ s.inp.pressure ∧ s.bcu.holdCmd = true ∧ s.ssu.state ≠ .trip ∧
       (after (.bandSwitchChange .pb1 .released true) s).bcu.pb1 =
         { state := .applying, timer := some 800, demand := .apply }) ∧
    (let s := cycling .applying .apply ⟨false, false⟩
     s.bcu.test.running = some 2 ∧ (after (.bandSwitchChange .pb1 .applied true) s).bcu.test = .step2Passed) ∧
    (let s := cycling .releasing .release ⟨false, false⟩
     shownApplied (setBandSwitch .applied false (bandLevels s.inp.levels .pb2)) = false ∧ cycledBand 2 ≠ some .pb2 ∧
       (after (.bandSwitchChange .pb2 .applied false) s).bcu.testRec.map TestRecord.reason =
         some (.holdLost .pb2)) := by decide +kernel

theorem witness_WheelBrakeIsFollowed :
    (let s := atStop.onBcu (fun b => { b with follow := .following, followTimer := some 0 })
     s.bcu.follow = .following ∧ s.bcu.followTimer ≠ none ∧ s.bcu.test ≠ .running4 ∧ s.bcu.test.running = none) ∧
    (let s := (testing .running4 none).onBcu (fun b => { b with follow := .following, followTimer := some 0 })
     s.bcu.follow = .following ∧ s.bcu.followTimer ≠ none ∧ s.bcu.test = .running4) ∧
    (let s := cycling .releasing .release ⟨false, false⟩
     s.bcu.test.running = some 2 ∧ (s.bcu.band .pb2).state = .applied ∧ (s.bcu.band .pb2).demand = .apply ∧
       (after (.wbPressureChange 34) s).bcu.testRec.map TestRecord.reason = some (.holdLost .wb) ∧
       (after (.wbPressureChange 35) s).bcu.test = .running2) ∧
    (let s := testing .running4 none
     let r := s.onBcu (fun b => { b with step4Hold := true })
     s.bcu.test = .running4 ∧ (∀ p ∈ [Band.pb1, .pb2], (s.bcu.band p).state = .applied ∧
         (s.bcu.band p).demand = .apply) ∧ s.bcu.holdCmd = true ∧ s.ssu.state = .advise ∧
       s.bcu.step4Hold = false ∧ (after (.wbPressureChange 90) s).bcu.wbDemand = .hold ∧
       (after (.wbPressureChange 89) s).bcu.wbDemand = .full ∧
       (after (.wbPressureChange 50) r).bcu.test = .step4Passed) ∧
    (after (.wbPressureChange 50) atStop).bcu.follow = .confirmed ∧
    (after (.wbPressureChange 51) atStop).bcu.follow = .following := by decide +kernel

theorem witness_TestStepsEndOnTheirTimers :
    (let s := testing .running1 (some 0)
     s.bcu.test = .running1 ∧ s.bcu.stepTimer ≠ none ∧ s.bandNotHolding = none ∧ 35 ≤ s.inp.pressure) ∧
    (let s := (testing .running1 (some 0)).onInp (fun i => { i with pressure := 34 })
     s.bcu.test = .running1 ∧ s.bcu.stepTimer ≠ none ∧ s.bandNotHolding = none ∧ s.inp.pressure < 35) ∧
    (let s := bandsIn .applying (some 1) (testing .running1 (some 0))
     s.bcu.test = .running1 ∧ s.bcu.stepTimer ≠ none ∧ s.bandNotHolding = some .pb1) ∧
    (let s := testing .running5 (some 0)
     s.bcu.test = .running5 ∧ s.bcu.stepTimer ≠ none ∧ s.inp.levels.ebReady = true) ∧
    (let s := (testing .running5 (some 0)).onInp (fun i => { i with levels := { i.levels with ebReady := false } })
     s.bcu.test = .running5 ∧ s.bcu.stepTimer ≠ none ∧ s.inp.levels.ebReady = false) ∧
    (let s := testing .running2 none
     s.bcu.test.running = some 2 ∧ s.pou.standstill = true ∧ (s.dcu.leaf .b1).state = .locked ∧
       s.dcu.secure = true ∧
       (after .pinionPulse s).bcu.testRec.map TestRecord.reason = some .abortMotion ∧
       (after (.closedSwitchChange .b1 false) s).bcu.testRec.map TestRecord.reason = some .abortDoors) ∧
    (let s := (testing .running3 none).onCtl (fun c => { c with mode := .waking, settle := some 0 })
     s.bcu.test.running = some 3 ∧ s.ctl.mode = .waking ∧ s.ctl.settle ≠ none ∧
       (after .settleTimerExpiry s).bcu.testRec.map TestRecord.reason = some .abortMode) := by decide +kernel

theorem witness_DriveRequestIsGuarded :
    (ready.servesRequests ∧ ready.ctl.mode = .ready) ∧
    (let s := testing .running3 none
     s.servesRequests ∧ s.ctl.mode = .service ∧ s.bcu.test.running ≠ none) ∧
    (let s := running 100000 200
     s.servesRequests ∧ s.ctl.mode = .service ∧ s.bcu.test.running = none ∧ s.bcu.failing s.readings = [] ∧
       s.bcu.traction = false ∧ s.summaryTrue) ∧
    (atStop.servesRequests ∧ atStop.ctl.mode = .service ∧ atStop.bcu.test.running = none ∧
       atStop.bcu.failing atStop.readings ≠ []) ∧ 2#8 ≠ 0#8 ∧ 2#8 ≠ 1#8 ∧
    (let s := portCleared driving
     s.servesRequests ∧ s.ctl.mode = .service ∧ s.bcu.test.running = none ∧ s.bcu.failing s.readings = [] ∧
       s.bcu.traction = true ∧ s.summaryTrue) := by decide +kernel

theorem witness_BrakeTestTakesTheNextStep :
    (testing .running3 none).servesRequests ∧ (testing .running3 none).bcu.test.running ≠ none ∧
    (let s := onRack.onBcu (fun b => { b with test := .notDone })
     s.servesRequests ∧ s.bcu.test.running = none ∧ (2#8).toNat ≠ s.bcu.test.nextStep ∧
       (1#8).toNat = s.bcu.test.nextStep ∧ s.testAllowed = true) ∧
    (let s := moving (testing .step1Passed none)
     s.servesRequests ∧ s.bcu.test.running = none ∧ (2#8).toNat = s.bcu.test.nextStep ∧ s.testAllowed = false) := by
  decide +kernel

/-- The car before step `n`, at a pressure. -/
def beforeStep (x : TestState) (pressure : Nat) : State := (testing x none).onInp (fun i => { i with pressure := pressure })

/-- R118 to R121: step 1 passing at once and running; step 2 begun, and failed by the WB and by PB2; step 4; step 5 with EB_READY
present and absent. A FAILED step 1 before the test begins again shows the record of a step alike. -/
theorem witness_BrakeTestSteps :
    (let s := beforeStep .failed 35
     s.servesRequests ∧ (1#8).toNat = s.bcu.test.nextStep ∧ s.testAllowed = true ∧ s.bandNotHolding = none ∧
       (after (.brakeTest 1#8) s).bcu.test = .step1Passed ∧
       (after (.brakeTest 1#8) (beforeStep .failed 34)).bcu.test = .running1) ∧
    (let s := beforeStep .step1Passed 35
     s.servesRequests ∧ (2#8).toNat = s.bcu.test.nextStep ∧ s.testAllowed = true ∧ cycledBand 2 = some .pb1 ∧
       (s.bcu.band .pb2).demand = .apply ∧ s.bcu.holdCmd = true ∧ (s.bcu.band .pb2).state = .applied ∧
       shownReleased (bandLevels s.inp.levels .pb1) = false ∧ (s.bcu.band .pb1).state = .applied ∧
       (after (.brakeTest 2#8) s).bcu.pb1 = { state := .releasing, timer := some 1200, demand := .release }) ∧
    (after (.brakeTest 2#8) (beforeStep .step1Passed 34)).bcu.testRec.map TestRecord.reason = some (.holdLost .wb) ∧
    (let s := (beforeStep .step1Passed 41).onBcu (fun b => { b with pb2 := { b.pb2 with state := .fault } }) |>.onInp
       (fun i => { i with levels := { i.levels with pb2 := ⟨false, false⟩ } })
     (s.bcu.band .pb2).state = .fault ∧ shownApplied (bandLevels s.inp.levels .pb2) = false ∧
       (after (.brakeTest 2#8) s).bcu.testRec.map TestRecord.reason = some (.holdLost .pb2)) ∧
    (let s := beforeStep .step3Passed 41
     (4#8).toNat = s.bcu.test.nextStep ∧ s.testAllowed = true ∧ s.bcu.wbDemand ≠ .full ∧
       (∀ p ∈ [Band.pb1, .pb2], (s.bcu.band p).state = .applied ∧ (s.bcu.band p).demand = .apply) ∧
       (after (.brakeTest 4#8) s).bcu.wbDemand = .full) ∧
    (let s := beforeStep .step4Passed 41
     (5#8).toNat = s.bcu.test.nextStep ∧ s.testAllowed = true ∧ s.inp.levels.ebReady = true ∧
       (after (.brakeTest 5#8) s).bcu.test = .running5 ∧
       (after (.brakeTest 5#8) (s.onInp (fun i => { i with levels := { i.levels with ebReady := false } }))).bcu.test =
         .passedDegraded) := by decide +kernel

theorem witness_ButtonOpensAReleasedLeaf :
    (let s := leafIn .a1 .released none atStop
     (s.dcu.side .a).mode = .passenger ∧ (s.dcu.side .a).closingOut = false ∧ (s.dcu.leaf .a1).state = .released) ∧
    (let s := leafIn .b2 .opened (some 10) atStop
     (s.dcu.side .b).mode = .passenger ∧ (s.dcu.side .b).closingOut = false ∧ (s.dcu.leaf .b2).state = .opened ∧
       (s.dcu.leaf .b2).timer ≠ none) ∧
    (leafIn .b2 .warning (some 10) atStop |>.dcu.leaf .b2).state = .warning ∧
    (let s := leafIn .b2 .opened none atStop
     (s.dcu.side .b).closingOut = false ∧ (s.dcu.leaf .b2).state = .opened ∧ (s.dcu.leaf .b2).timer = none) ∧ (atStop.dcu.leaf .a2).state = .locked ∧
    ((atStop.onDcu (fun d => { d with sideA := { d.sideA with mode := .crew } })).dcu.side .a).mode = .crew := by
  decide +kernel

/-- Leaf A1 OPENING or REVERSING, held open or not, a close having reached it or not, on a side in a mode, marked or not, with a warn
lead. -/
def reaching (st : LeafState) (hold asked : Bool) (m : ReleaseMode) (out : Bool) (lead : Nat) : State :=
  ((leafIn .a1 st (some 1) atStop).onDcu (fun d =>
    { d with a1 := { d.a1 with holdOpen := hold, closeAsked := asked }, sideA := { d.sideA with mode := m, closingOut := out } })).onLrs
      (fun l => { l with settings := { l.settings with warnLead := lead } })

/-- What A1 is in once its open-end switch is made. -/
def reached (s : State) : LeafState × Option Nat :=
  let l := (after (.openEndSwitch .a1 true) s).dcu.a1
  (l.state, l.timer)

/-- R131, R133, R137: each of the five ways of reaching OPEN. -/
theorem witness_OpenEndSwitchBranches :
    reached (reaching .reversing true true .passenger true 2) = (.opened, none) ∧
      reached (reaching .opening true false .passenger false 2) = (.opened, some 10000) ∧
      reached (reaching .opening false false .crew true 2) = (.warning, some 2000) ∧
      reached (reaching .reversing false false .crew true 2) = (.opened, none) ∧
      reached (reaching .reversing false true .crew true 2) = (.warning, some 2000) ∧
      reached (reaching .reversing false true .crew false 2) = (.opened, none) ∧
      reached (reaching .reversing false false .passenger true 0) = (.closing, some 5000) ∧
      reached (reaching .opening false false .passenger false 2) = (.opened, some 10000) ∧
      reached (reaching .reversing false false .crew false 2) = (.opened, none) := by decide +kernel

/-- R133, case 2, R137 and R140 on a CREW side: the close that set the leaf moving leaves it waiting after an obstruction; a close taken
while it is CLOSING or REVERSING sends it to WARNING. -/
theorem test_crew_leaf_reversed_under_a_close :
    let crew := fun st : LeafState => (leafIn .b2 st (some 1) atStop).onDcu (fun d =>
      { d with sideB := { d.sideB with mode := .crew, closingOut := true },
               b2 := { d.b2 with candidate := some { peak := 78, peakPos := 350, lastPos := 358, stall := 200 } } })
    let end_ := fun cs : List Instr => (afterAll (cs ++ [.openEndSwitch .b2 true]) (crew .closing)).dcu.b2.state
    end_ [.stallTimeout .b2] = .opened ∧ end_ [.doorClose 2#8, .stallTimeout .b2] = .warning ∧
      end_ [.stallTimeout .b2, .doorClose 2#8] = .warning ∧
      (after (.doorClose 2#8) (crew .opened)).dcu.b2.closeAsked = false := by decide +kernel

theorem witness_OpenEndSwitchReachesOpen :
    ((leafIn .a1 .opening (some 1) atStop).dcu.leaf .a1).state = .opening ∧
      ((leafIn .a1 .reversing (some 1) atStop).dcu.leaf .a1).state = .reversing ∧
      (atStop.dcu.leaf .a1).state ≠ .opening ∧ (atStop.dcu.leaf .a1).state ≠ .reversing := by decide +kernel

theorem witness_ClosedAndLockSwitches :
    ((leafIn .a1 .closing (some 1) atStop).dcu.leaf .a1).state = .closing ∧
      ((leafIn .a1 .locking (some 1) atStop).dcu.leaf .a1).state = .locking ∧
      (let s := moving (running 100000 200)
       (s.dcu.leaf .b1).state = .locked ∧ s.pou.standstill = false) ∧ atStop.pou.standstill = true ∧
      (let s := atStop.onDcu (fun d => { d with a2 := { d.a2 with state := .isolated, lockSeen := true } })
       (s.dcu.leaf .a2).state = .isolated ∧ (s.dcu.leaf .a2).lockSeen = true) := by decide +kernel

theorem witness_LeafTimersRunOut :
    (∀ x ∈ [LeafState.opening, .reversing, .closing, .locking, .opened, .warning],
      ((leafIn .b1 x (some 0) atStop).dcu.leaf .b1).state = x ∧
        ((leafIn .b1 x (some 0) atStop).dcu.leaf .b1).timer ≠ none) ∧
      ((leafIn .b1 .opened none atStop).dcu.leaf .b1).state = .opened ∧
      ((leafIn .b1 .opened none atStop).dcu.leaf .b1).timer = none := by decide +kernel

/-- A leaf CLOSING with a candidate of peak 78 at 350, last sampled at 358. -/
def closingWith (attempts : Nat) : State :=
  (leafIn .b2 .closing (some 4000) atStop).onDcu (fun d =>
    { d with b2 := { d.b2 with attempts := attempts, candidate := some { peak := 78, peakPos := 350, lastPos := 358, stall := 200 } } })

/-- The ends of the watched stroke, 50 and 950; the threshold 60; the fall to 78 - 15 = 63. -/
theorem witness_ObstructionReversesTheLeaf :
    (let s := leafIn .b2 .closing (some 4000) atStop
     (s.dcu.leaf .b2).state = .closing ∧ (s.dcu.leaf .b2).candidate = none ∧ s.cfg.threshold ≤ 60 ∧
       ((after (.doorSample .b2 60 950) s).dcu.leaf .b2).candidate.map Candidate.peak = some 60 ∧
       ((after (.doorSample .b2 60 50) s).dcu.leaf .b2).candidate.map Candidate.peak = some 60 ∧
       ((after (.doorSample .b2 60 951) s).dcu.leaf .b2).candidate = none ∧
       ((after (.doorSample .b2 59 500) s).dcu.leaf .b2).candidate = none) ∧
    (let s := closingWith 0
     (s.dcu.leaf .b2).state = .closing ∧
       (s.dcu.leaf .b2).candidate = some { peak := 78, peakPos := 350, lastPos := 358, stall := 200 } ∧
       s.cfg.hysteresis < 78 ∧ 63 ≤ 78 - s.cfg.hysteresis ∧ s.cfg.reportPoint = .atPeak ∧
       ((after (.doorSample .b2 64 360) s).dcu.leaf .b2).state = .closing ∧
       ((after (.doorSample .b2 63 360) s).dcu.leaf .b2).state = .reversing ∧
       leafStroke s.inp.strokes .b2 ≤ 950 ∧ ((after (.stallTimeout .b2) s).dcu.leaf .b2).state = .reversing ∧
       (let t := after (.doorSample .b2 60 950) s
        leafStroke t.inp.strokes .b2 ≤ 950 ∧ ((after (.stallTimeout .b2) t).dcu.leaf .b2).state = .reversing) ∧
       (let t := after (.doorSample .b2 60 951) s
        950 < leafStroke t.inp.strokes .b2 ∧ (t.dcu.leaf .b2).candidate ≠ none ∧
          ((after (.stallTimeout .b2) t).dcu.leaf .b2).state = .closing ∧
          ((after (.closeStrokeTimeout .b2) t).dcu.leaf .b2).state = .fault)) ∧
    ((atStop.dcu.leaf .b2).state ≠ .closing ∧ (after (.doorSample .b2 60 951) atStop).inp = atStop.inp) ∧
    (closingWith 2).cfg.reopenAttempts ≤ ((closingWith 2).dcu.leaf .b2).attempts + 1 := by decide +kernel

theorem witness_DoorReleaseIsRefused :
    (ready.servesRequests ∧ ready.ctl.mode = .ready) ∧ sideOf 3#8 = none ∧ releaseModeOf 0#8 = none ∧
    ((testing .running3 none).servesRequests ∧ (testing .running3 none).bcu.test.running ≠ none ∧
      (testing .running3 none).ctl.mode = .service ∧ sideOf 1#8 ≠ none ∧ releaseModeOf 2#8 ≠ none) ∧
    ((moving atStop).bcu.test.running = none ∧ (moving atStop).pou.standstill = false) ∧
    (let s := State.reset.onCtl (fun c => { c with mode := .service })
     s.servesRequests ∧ s.bcu.holdConf = false ∧ s.pou.last.posState ≠ .known) ∧
    tripped.ssu.state = .trip := by decide +kernel

theorem witness_DoorReleaseAtAStop :
    (let s := recompute atStop
     s.servesRequests ∧ sideOf 1#8 = some .a ∧ releaseModeOf 1#8 = some .passenger ∧ s.bcu.test.running = none ∧
       s.pou.standstill = true ∧ s.bcu.holdConf = true ∧ s.ssu.state ≠ .trip ∧ s.sideInCycle .a = false ∧
       s.summaryTrue ∧ s.bcu.evaluate s.readings = s.bcu ∧ s.ctl.mode = .service ∧ s.pou.last.posState = .known ∧
       platformLookup s.lineStops s.lrs.closure .a s.spanLow s.spanHigh s.pou.last.u ≠ .none ∧
       (let r := recompute (standing .service 300000 10)
        r.bcu.evaluate r.readings = r.bcu ∧
          platformLookup r.lineStops r.lrs.closure .a r.spanLow r.spanHigh r.pou.last.u = .none)) ∧
    (let s := (recompute atStop).onLrs (fun l => { l with closure := [7] })
     s.bcu.evaluate s.readings = s.bcu ∧
       platformLookup s.lineStops s.lrs.closure .a s.spanLow s.spanHigh s.pou.last.u = .closed (platforms.headD
         { number := 0, reference := 0, tolerance := 0, sides := .a, marker := none, windows := [] })) ∧
    (let s := recompute (standing .depot 1700 200)
     s.servesRequests ∧ s.ctl.mode = .depot ∧ s.bcu.evaluate s.readings = s.bcu ∧ s.summaryTrue) ∧
    (let s := portCleared (after (.doorRelease 1#8 1#8) (recompute atStop))
     s.sideInCycle .a = true ∧ s.servesRequests ∧ s.summaryTrue ∧ s.bcu.evaluate s.readings = s.bcu ∧
       (s.dcu.side .a).mode = .passenger ∧
       (answerTo (.doorRelease 1#8 2#8) s).map Answer.reason = some .conditions ∧
       (answerTo (.doorRelease 1#8 1#8) s).map Answer.items = some [7#8, 0#8]) := by
  decide +kernel

theorem witness_SideIsClosedOut :
    (atStop.servesRequests ∧ sideOf 2#8 = some .b ∧ atStop.ctl.mode = .service ∧ atStop.lrs.settings.warnLead ≠ 0) ∧
      (∀ x ∈ [LeafState.released, .opened, .warning, .closing],
        ((leafIn .b1 x none atStop).dcu.leaf .b1).state = x) ∧
      (ready.servesRequests ∧ ready.ctl.mode = .ready) ∧
      (let s := (leafIn .b1 .opened (some 4) atStop).onLrs (fun l => { l with settings := { l.settings with warnLead := 0 } })
       (s.dcu.leaf .b1).timer ≠ none ∧ (after (.doorClose 2#8) s).dcu.b1.state = .closing) ∧
      (let s := (leafIn .b1 .opened none atStop).onDcu (fun d => { d with b2 := { d.b2 with attempts := 2, holdOpen := true } })
       (after (.doorClose 2#8) s).dcu.b1.state = .warning ∧ (after (.doorClose 2#8) s).dcu.b2.attempts = 0 ∧
         (after (.doorWithdraw 2#8) s).dcu.b1.state = .opened ∧
         (after (.doorWithdraw 2#8) s).dcu.b2.attempts = 2) := by decide +kernel

/-- R138: the DCU's own withdrawals, of a side in PASSENGER and one in CREW mode; R124, R139: the mark and the release stop. -/
theorem witness_DcuWithdraws :
    (let s := (leafIn .a1 .opened (some 9) (leafIn .a2 .released none (leafIn .b1 .opened none atStop))).onDcu (fun d =>
       { d with sideB := { d.sideB with mode := .crew, stop := some 8 }, sideA := { d.sideA with stop := some 7 } })
     let t := after (.wheelPulse .up) s
     s.pou.standstill = true ∧ t.dcu.a1.state = .warning ∧ t.dcu.a2.state = .locked ∧ t.dcu.b1.state = .warning ∧
       t.dcu.sideA.closingOut = true ∧ t.dcu.sideB.closingOut = true ∧ t.dcu.sideA.stop = some 7 ∧
       (after .pinionPulse s).dcu.sideA.closingOut = true) ∧
    (let s := (leafIn .a1 .opened (some 9) (runningAt 751)).onDcu (fun d => { d with sideA := { d.sideA with stop := some 7 } })
     s.ssu.state ≠ .trip ∧ (after .positionUpdate s).ssu.state = .trip ∧ (after .positionUpdate s).dcu.a1.state = .warning ∧
       s.sideInCycle .b = false ∧ (s.dcu.side .b).stop = none) ∧
    (let s := moving (leafIn .a2 .opened (some 9) (running 100000 200))
     let t := after (.lockSwitchChange .a1 false) s
     s.ssu.state ≠ .trip ∧ t.ssu.state = .trip ∧ t.dcu.a1.state = .fault ∧ t.dcu.a2.state = .warning) ∧
    ((after .park atStop).ctl.mode = .parked ∧ (after .park atStop).dcu.sideB.closingOut = true) ∧
    (let s := (leafIn .a1 .locking (some 9) atStop).onDcu (fun d =>
       { d with sideA := { d.sideA with stop := some 7, closingOut := true } })
     let t := after (.lockSwitchChange .a1 true) s
     t.dcu.a1.state = .locked ∧ t.dcu.sideA.stop = none ∧ t.dcu.sideA.closingOut = true ∧
       (after (.doorRelease 1#8 1#8) (portCleared t)).dcu.sideA.closingOut = false ∧
       (after (.doorRelease 1#8 1#8) (portCleared t)).dcu.sideA.stop = some 7) := by decide +kernel

theorem witness_LeafIsIsolatedAndRestored :
    ((moving atStop).servesRequests ∧ leafOf 1#8 = some .a1 ∧ (moving atStop).pou.standstill = false) ∧
    (atStop.servesRequests ∧ atStop.pou.standstill = true ∧ (atStop.dcu.leaf .a1).state = .locked ∧
      (leafLevels atStop.inp.levels .a1).closed = true ∧ (leafLevels atStop.inp.levels .a1).lock = true) ∧
    (atStop.summaryTrue ∧ (∀ m ∈ [Leaf.a2, .b1, .b2], (atStop.dcu.leaf m).state = .locked) ∧
      (let s := leafIn .a1 .fault none atStop
       s.summaryTrue ∧ s.dcu.secure = false ∧ (after (.doorIsolate 1#8) s).dcu.secure = true)) ∧
    ((leafIn .a1 .isolated none atStop).dcu.leaf .a1).state = .isolated ∧
    ((leafIn .a1 .opening (some 1) atStop).dcu.leaf .a1).state = .opening ∧
    ((leafIn .a1 .fault none atStop).dcu.leaf .a1).state = .fault := by decide +kernel

/-- The link of a car in a state, its silence, its transceiver. -/
def linked (l : LinkState) (silence : Nat) (x : Xcvr) (restart : Option Nat) : State :=
  (running 100000 200).onVru (fun v => { v with link := l, silence := silence, xcvr := x, restartTimer := restart })

theorem witness_LinkFollowsSilenceAndTransceiver :
    (let s := linked .up 4000 .on none
     s.vru.link = .up ∧ max s.vru.silence 4000 < s.lostLimit ∧ s.vru.link ≠ .lost ∧
       s.aut.chain = [] ++ authority 530 97000 125000 .up 700 :: [] ∧
       (authority 530 97000 125000 .up 700).contains s.front = true ∧ s.servesRequests ∧ s.ctl.mode ≠ .parked ∧
       s.vru.xcvr ≠ .held) ∧
    (let s := atStop
     ∀ r ∈ s.aut.chain, r.contains s.front = false) ∧
    (let s := linked .silent 9999 .restarting (some 0)
     s.vru.xcvr = .restarting ∧ s.vru.restartTimer ≠ none ∧ s.vru.silence < s.lostLimit ∧
       (linked .silent 10000 .restarting (some 0)).lostLimit = 10000) ∧
    (linked .up 0 .held none).vru.xcvr = .held := by decide +kernel

theorem witness_TransmitterTimersSendReports :
    (let s := atStop.onVru (fun v => { v with reportTimer := some 0, burstTimer := some 0, burstCount := 1, owed := some 0 })
     s.vru.latched = some 23 ∧ s.vru.reportTimer ≠ none ∧ s.vru.burstTimer ≠ none ∧ s.vru.owed ≠ none ∧
       s.vru.queue = [] ∧ s.vru.sending = none ∧ s.vru.burstCount ≤ 1) ∧
    (let s := atStop.onVru (fun v => { v with sending := some [0#8], queue := [.report .linkUp none], burstCount := 2 })
     s.vru.sending ≠ none ∧ s.vru.queue = .report .linkUp none :: [] ∧ 1 < s.vru.burstCount) := by decide +kernel

/-- A last taken record. -/
def takenGrant : LastTaken := { seq := 17#8, kind := .grant, outcome := .taken, slot := none }

theorem witness_FramesAreSortedAndNotRepeated :
    let s := (running 100000 200).onVru (fun v => { v with lastTaken := some takenGrant, sending := some [0#8] })
    s.listening ∧ s.foreign 24#8 ∧ s.addressed 0#8 ∧ s.addressed 23#8 ∧ s.directed 23#8 ∧
      frameAddress (.foreignFrame 24#8) = some 24#8 ∧ ¬ (linked .up 0 .held none).listening ∧
      frameAddress (.revoke 23#8 17#8 530#16) = some 23#8 ∧ frameSequence (.revoke 23#8 17#8 530#16) = some 17#8 ∧
      s.vru.lastTaken = some takenGrant ∧ takenGrant.seq = 17#8 ∧ s.vru.sending ≠ none ∧ takenGrant.kind ≠ .probe := by
  decide +kernel

/-- A byte on the line `gap` ms after the one before, heard by a car that holds `rx`. -/
def hearing (rx : List Byte) (b : LineByte) : State :=
  (atStop.onVru (fun v => { v with rx := rx })).onInp (fun i => { i with line := [b], lineWait := b.gap })

/-- R153: a byte outside a frame; a framing error; a gap of 20 and of 21 ms; the fifth byte, a length of 40 and of 41. -/
theorem witness_BytesAreHeard :
    (let s := hearing [] ⟨1, 0xA5#8, true⟩
     s.pending = [] ∧ s.listening ∧ s.inp.line = ⟨1, 0xA5#8, true⟩ :: [] ∧ 1 ≤ s.inp.lineWait + 1 ∧
       (stepped 1 s).vru.rx = [0xA5#8]) ∧
    (stepped 1 (hearing [] ⟨1, 0xA4#8, true⟩)).vru.rx = [] ∧
    (stepped 1 (hearing [0xA5#8] ⟨1, 0x17#8, false⟩)).pending = [.frameDiscarded .framing] ∧
    (stepped 1 (hearing [0xA5#8] ⟨20, 0x17#8, true⟩)).vru.rx = [0xA5#8, 0x17#8] ∧
    (stepped 1 (hearing [0xA5#8] ⟨21, 0xA5#8, true⟩)).pending = [.frameGapTimeout 0xA5#8] ∧
    (stepped 1 (hearing [0xA5#8, 0x17#8, 1#8, 1#8] ⟨1, 41#8, true⟩)).pending = [.frameDiscarded .tooLong] ∧
    (stepped 1 (hearing [0xA5#8, 0x17#8, 1#8, 1#8] ⟨1, 40#8, true⟩)).pending = [] := by decide +kernel

/-- R153: a PROBE to car 23 found on the line behind a byte that is no start byte, its CRC-16 as R154 computes it; the same frame with
its last byte changed is discarded. -/
theorem test_probe_found_on_the_line :
    let frame := radioFrame 23#8 9#8 5#8 []
    (stepped 8 (lineOf (0x33#8 :: frame) atStop)).pending = [.probe 23#8 5#8] ∧
      (stepped 8 (lineOf (0x33#8 :: frame) atStop)).inp.line = [] ∧
      (stepped 9 (lineOf (0x33#8 :: frame) atStop)).vru.rx = [] ∧
      (stepped 9 (lineOf (0x33#8 :: frame) atStop)).vru.lastTaken.map LastTaken.seq = some 5#8 ∧
      (stepped 7 (lineOf (frame.dropLast ++ [0x00#8]) atStop)).pending = [.frameDiscarded .badCrc] := by
  decide +kernel

/-- The outcome a GRANT is answered with. -/
def granted (id : Half) (start stop : Chain) (dir : Byte) (expiry : Half) (s : State) : Option RadioOutcome :=
  (after (.grant 23#8 1#8 id start stop dir 700#16 expiry) s).vru.lastTaken.map LastTaken.outcome

theorem witness_GrantIsChecked :
    atStop.listening ∧ atStop.directed 23#8 ∧ atStop.newSequence 1#8 ∧
      granted 1#16 97000#24 125000#24 1#8 0#16 ready = some .mode ∧
      granted 1#16 125000#24 153000#24 1#8 601#16 (running 100000 200) = some .range ∧
      granted 1#16 125000#24 153000#24 1#8 600#16 (running 100000 200) = some .taken ∧
      granted 530#16 125000#24 153000#24 1#8 0#16 (running 100000 200) = some .range ∧
      granted 0#16 125000#24 153000#24 1#8 0#16 (running 100000 200) = some .range ∧
      granted 1#16 125000#24 125000#24 1#8 0#16 (running 100000 200) = some .range ∧
      granted 1#16 153000#24 125000#24 2#8 0#16 (running 100000 200) = some .direction ∧
      granted 1#16 125001#24 153000#24 1#8 0#16 (running 100000 200) = some .gap ∧
      granted 1#16 200000#24 204720#24 1#8 0#16 atStop = some .gap ∧
      granted 1#16 200000#24 204721#24 1#8 0#16 atStop = some .taken := by decide +kernel

theorem witness_RecordsAreShortenedAndRetired :
    (ready.directed 23#8 ∧ ready.newSequence 1#8 ∧ ready.ctl.mode ≠ .service) ∧
    (let s := (running 100000 200).onAut (fun _ => twoRecords)
     s.directed 23#8 ∧ s.newSequence 1#8 ∧ s.ctl.mode = .service ∧ 9 ∉ s.aut.chain.map Authority.id ∧
       s.aut.chain = [authority 530 97000 125000 .up 700] ++ authority 302 125000 153000 .up 700 :: [] ∧
       (authority 530 97000 125000 .up 700).id ≠ (302#16).toNat ∧ 125000 < (125001#24).toNat ∧
       (153000#24).toNat ≤ 153000 ∧ (125000#24).toNat ≤ 125000 ∧ 153000 < (153001#24).toNat) ∧
    (let r := { authority 302 125000 153000 .up 700 with occupation := .ahead, leftMs := some 0 }
     let s := (running 100000 200).onAut (fun a => { a with chain := a.chain ++ [r] })
     s.aut.chain = [authority 530 97000 125000 .up 700] ++ r :: [] ∧ r.occupation = .ahead ∧ r.leftMs ≠ none) := by
  decide +kernel

theorem witness_RestrictionsArePlacedAndLifted :
    (let s := restricted [restriction 40 0 500 .valley, restriction 41 0 500 .crew] atStop
     (40#16 : Half) ≠ 0#16 ∧ (0#24 : Chain).toNat < (410000#24 : Chain).toNat ∧ s.line = some (0, 410000) ∧
       appliesOf 3#8 = some .both ∧ (∀ q ∈ s.lrs.restrictions, q.id = 40 → q.origin = .valley) ∧
       (∀ q ∈ s.lrs.restrictions, q.id = 41 → q.origin = .crew) ∧ s.lrs.restrictions.length < 24 ∧
       s.ctl.mode ≠ .start ∧ s.directed 23#8 ∧ s.newSequence 1#8 ∧ s.servesRequests ∧
       s.lrs.restrictions = [restriction 40 0 500 .valley] ++ restriction 41 0 500 .crew :: [] ∧
       s.lrs.restrictions = [] ++ restriction 40 0 500 .valley :: [restriction 41 0 500 .crew] ∧
       42 ∉ s.lrs.restrictions.map Restriction.id ∧ s.spanOnLine 0 410000 = true ∧ s.spanOnLine 0 410001 = false ∧
       appliesOf 4#8 = none ∧
       (answerTo (.restrict 40#16 0#24 500#24 600#16 3#8) s).map Answer.reason = some .origin ∧
       (answerTo (.restrict 42#16 500#24 500#24 600#16 3#8) s).map Answer.reason = some .range ∧
       (after (.restrictFrame 23#8 1#8 41#16 0#24 500#24 600#16 3#8) s).vru.lastTaken.map LastTaken.outcome =
         some .origin) ∧
    (let s := (standing .start 0 0)
     s.ctl.mode = .start ∧ s.directed 23#8 ∧ s.newSequence 1#8 ∧ s.listening ∧ s.portFree) ∧
    (let s := restricted [restriction 40 0 500 .valley] atStop
     s.listening ∧ (after (.liftFrame 0#8 1#8 40#16) s).lrs.restrictions = [] ∧
       ((after (.restrictFrame 0#8 1#8 41#16 500#24 900#24 600#16 3#8) s).lrs.restrictions.map Restriction.id) = [40, 41] ∧
       (after (.restrictFrame 0#8 1#8 41#16 500#24 900#24 600#16 3#8) s).vru.lastTaken = none) ∧
    (standing .waking 0 0).ctl.mode = .waking := by decide +kernel

theorem witness_FullListAbsorbsIntoOverflow :
    let s := restricted fullList atStop
    24 ≤ s.lrs.restrictions.length ∧ 900 ∉ s.lrs.restrictions.map Restriction.id ∧ s.line = some (0, 410000) ∧
      s.ctl.mode ≠ .start ∧ s.directed 23#8 ∧ s.addressed 0#8 ∧ s.newSequence 1#8 ∧ s.servesRequests ∧
      s.lrs.overflow = none ∧
      (after (.restrictFrame 23#8 1#8 900#16 0#24 410000#24 500#16 3#8) s).lrs.overflow = some ⟨0, 410000, 500⟩ ∧
      (let t := s.onLrs (fun l => { l with overflow := some ⟨0, 410000, 500⟩ })
       (after (.restrictFrame 23#8 1#8 900#16 0#24 410000#24 500#16 3#8) t).cmp.causes.getLsbD 6 = false) := by
  decide +kernel

theorem witness_ClosuresAndProbes :
    atStop.addressed 0#8 ∧ atStop.addressed 23#8 ∧ atStop.newSequence 1#8 ∧ atStop.directed 23#8 ∧
      (atStop.lineStops.map StopRec.number) = [7, 8, 9] ∧ 7 ∉ atStop.lrs.closure ∧
      7 ∈ (atStop.onLrs (fun l => { l with closure := [7] })).lrs.closure ∧
      (let s := after (.doorRelease 1#8 1#8) atStop
       (s.dcu.leaf .a1).state = .released ∧ (s.dcu.side .a).stop = some 7) ∧ atStop.listening ∧
      atStop.nv.stopsT.state = .closed ∧ (∀ p ∈ atStop.nv.stops, p.number ≠ 6) ∧
      inDepot.nv.stopsT.state ≠ .closed ∧ inDepot.addressed 23#8 ∧ atStop.ctl.stopsV ≠ none ∧
      (starting 3 300).addressed 23#8 ∧ (starting 3 300).ctl.stopsV = none ∧
      (let s := flying (.lock .stops) 0 50 (atStop.onLrs (fun l => { l with closure := [7] }))
       (after (.stopOpen 23#8 1#8 7#8) s).lrs.closure = [] ∧
         (after (.stopOpen 23#8 1#8 7#8) s).vru.lastTaken.map LastTaken.outcome = some .taken ∧
         (after (.stopClose 23#8 1#8 8#8) s).lrs.closure = [7, 8]) := by decide +kernel

/-- A response of 4 bytes waiting: reads of 3 and 4 clocks. -/
theorem witness_PortServesOneRequest :
    (let s := atStop.onCmp (fun p => { p with waiting := some [3#8, 3#8, 0#8, 1#8], rdy := true })
     s.cmp.waiting = some [3#8, 3#8, 0#8, 1#8] ∧ s.cmp.readPos + 3 < 4 ∧ 4 ≤ s.cmp.readPos + 4 ∧
       (after (.readTransaction 3 true) s).cmp.rdy = true ∧ (after (.readTransaction 4 true) s).cmp.rdy = false) ∧
    atStop.cmp.waiting = none ∧ atStop.portFree ∧
    (let s := after .readMode atStop
     (s.cmp.inProgress.map (fun r => r.answer.status)) = some .done ∧ ¬ s.portFree ∧
       encodeRequest .readMode ≠ none ∧ (after .badFrame s).cmp.outByte 0 = 0#8) ∧
    (let s := atStop.onCmp (fun p => { p with dataOut := [1#8, 2#8] })
     (after .readMode s).cmp.outByte 1 = 0#8 ∧ (after (.unknownRequest 0x0D#8) s).cmp.outByte 0 = 0#8) := by
  decide +kernel

theorem witness_RequestsAreGated :
    (wellFormed .enterService = true ∧ encodeRequest .enterService = some (0x40#8, []) ∧
      (standing .start 0 0).portFree ∧ (standing .waking 0 0).ctl.mode = .waking) ∧
    (wellFormed (.eraseTable true 1#8) = true ∧ encodeRequest (.eraseTable true 1#8) = some (0x50#8, [1#8]) ∧
      isDepotRequest (.eraseTable true 1#8) = true ∧ atStop.servesRequests ∧ inDepot.servesRequests ∧
      inDepot.nvc.runLock = false ∧ inDepot.ctl.mode = .depot ∧ atStop.ctl.mode ≠ .depot ∧
      (atStop.onNvc (fun n => { n with runLock := true })).nvc.runLock = true ∧ keyOf (.eraseTable true 1#8) = true ∧
      keyOf (.eraseTable false 1#8) = false ∧ inDepot.nvc.lockout = false ∧
      (flying (.erase .stops) 0 3000 inDepot).nvc.op ≠ none) := by decide +kernel

theorem witness_StatusRequestsAnswerAsTheyStand :
    atStop.portFree ∧ leafOf 4#8 = some .b2 ∧ leafOf 5#8 = none ∧ leafOf 0#8 = none ∧ atStop.servesRequests ∧
      State.reset.portFree ∧ State.reset.ctl.mode = .start := by decide +kernel

theorem witness_LookupsReadTheRecords :
    (let s := running 100000 200
     s.servesRequests ∧ s.underOperation .profile = false ∧ s.nv.segments.length ≤ (6#16).toNat ∧
       (s.nv.segments[(5#16).toNat]?).isSome = true ∧ (s.aut.chain[(0#8).toNat]?).isSome = true ∧
       s.aut.chain.length ≤ (1#8).toNat ∧ s.underOperation .stops = false ∧ s.underOperation .car = false ∧
       (s.nv.stops.map StopRec.number) = [7, 8, 9]) ∧
    (let s := flying (.erase .profile) 0 3000 inDepot
     s.servesRequests ∧ s.underOperation .profile = true) ∧
    (flying (.erase .stops) 0 3000 inDepot).underOperation .stops = true ∧
    (flying (.erase .car) 0 3000 inDepot).underOperation .car = true ∧
    ((restricted fullList atStop).lrs.restrictions[(23#8).toNat]?).isSome = true ∧
    (restricted fullList atStop).lrs.restrictions.length ≤ (24#8).toNat := by decide +kernel

theorem witness_CrewRequestsOnTheLine :
    (ready.servesRequests ∧ ready.ctl.mode = .ready ∧ (standing .parked 0 0).ctl.mode = .parked) ∧
    (atStop.servesRequests ∧ atStop.ctl.mode = .service ∧ atStop.bcu.pb1.state = .applied ∧
      atStop.bcu.pb2.state = .applied ∧ atStop.bcu.wbDemand ≠ .off ∧ atStop.pou.standstill = true ∧
      4 < (5#8 : Byte).toNat ∧ atStop.pou.posState = .known ∧ atStop.ctl.mode ≠ .depot ∧ atStop.aut.chain = [] ∧
      atStop.ssu.state ≠ .trip ∧ directionOf 1#8 = some .up ∧ directionOf 3#8 = none) ∧
    (moving atStop).pou.standstill = false ∧ (running 100000 200).aut.chain ≠ [] ∧
    (inDepot.servesRequests ∧ inDepot.pou.standstill = true ∧ (1599#24).toNat < inDepot.cfg.carLength ∧
      inDepot.cfg.carLength ≤ (1600#24).toNat ∧ inDepot.tableState .profile = .closed ∧
      inDepot.onLine 1600 = true ∧ inDepot.onLine 0 = true ∧ inDepot.onLine (410000#24).toNat = false) ∧
    (let s := tripped.onPou (fun p => { p with standstill := true })
     s.servesRequests ∧ s.pou.standstill = true ∧ s.ssu.state = .trip) := by decide +kernel

theorem witness_ModeRequestsMoveTheMode :
    (atStop.servesRequests ∧ atStop.ctl.mode ≠ .ready ∧ ready.servesRequests ∧ ready.ctl.mode = .ready ∧
      (ready.nv.info .profile).state = .closed ∧ (ready.nv.info .stops).state = .closed ∧
      (ready.nv.info .car).state = .closed ∧ (inDepot.nv.info .stops).state ≠ .closed) ∧
    (atStop.ctl.mode = .service ∧ atStop.pou.standstill = true ∧ atStop.bcu.holdConf = true ∧
      atStop.dcu.secure = true ∧ (moving atStop).pou.standstill = false) ∧
    (standing .parked 0 0).ctl.mode = .parked ∧ (standing .parked 0 0).servesRequests ∧
    (let s := (standing .waking 0 0).onCtl (fun c => { c with settle := some 0 })
     s.ctl.mode = .waking ∧ s.ctl.settle ≠ none) := by decide +kernel

/-- A segment image: adhesion at 0, gradient 40, limits 1,100. -/
def segmentImage : List Byte :=
  [0x00#8, 0x00#8, 0x00#8, 0x00#8, 0x00#8, 0x00#8, 0x00#8, 0x00#8, 0x28#8, 0x01#8, 0x04#8, 0x4C#8, 0x04#8, 0x4C#8, 0x00#8]

theorem witness_DepotRequestsStartTheirWork :
    inDepot.depotOpen ∧ tableOf 3#8 = some .car ∧ loadTableOf 2#8 = some .stops ∧ inDepot.nvc.batch.state = .none ∧
      (inDepot.nv.info .stops).lock = false ∧ (inDepot.nv.info .car).lock = true ∧
      (inDepot.nv.info .profile).state = .closed ∧ (inDepot.nv.info .stops).state = .loading ∧
      (let s := inDepot.onNv (fun nv => { nv with profileT := { closedTable with state := .loading } })
       s.depotOpen ∧ profileOk (410000#24).toNat s.nv.segments = true ∧
         profileOk (304600#24).toNat s.nv.segments = false) ∧
      (let s := batchOf 1 inDepot
       s.depotOpen ∧ s.nvc.batch.state = .opened ∧ s.nvc.batch.segments.length < s.nvc.batch.declared ∧
         s.nvc.batch.held < s.nvc.batch.declared ∧ (parseSegment segmentImage).isSome = true ∧
         segmentImage.length = 15) ∧
      (let s := batchOf 2 inDepot
       s.depotOpen ∧ s.nvc.batch.state = .opened ∧ s.nvc.batch.declared ≤ s.nvc.batch.held) ∧
      (batchOf 2 (inDepot.onNv (fun nv => { nv with segments := [] }))).batchOrdered = true ∧
      (let s := restricted [restriction 1 0 500 .valley] inDepot
       (after (.eraseTable true 1#8) s).lrs.restrictions = [] ∧ (s.nv.info .profile).state = .closed ∧
         (s.nv.info .profile).lock = false) ∧
      (batchOf 2 inDepot).batchOrdered = false ∧ inDepot.nv.idLock = false ∧ (255#16).toNat ≤ 255 := by decide +kernel

/-- A batch of stop images with one declared and `l` in it. -/
def stopBatch (l : List StopRec) : State :=
  inDepot.onNvc (fun c => { c with batch := { state := .opened, table := some .stops, declared := 1, segments := [], stops := l } })

/-- The image of stop 9: reference 380,000, tolerance 100, sides A and B, no marker, one window from 378,500 to 380,100 (R212). -/
def stopImage : List Byte :=
  [0x09#8, 0x05#8, 0xCC#8, 0x60#8, 0x00#8, 0x64#8, 0x03#8, 0x00#8, 0x00#8, 0x00#8, 0x00#8, 0x01#8, 0x05#8, 0xC6#8, 0x84#8,
   0x05#8, 0xCC#8, 0xC4#8]

/-- R178: an image beyond the declared count aborts a batch of stops; R182: the stop table is closed whatever stands for the line end;
R184: bits 13 to 15 of the mask name no field; R185: a set lock comes before the class. -/
theorem witness_DepotRequestsOfTheStops :
    (imageLengthOk stopImage = true ∧ (parseStop stopImage).map StopRec.number = some 9 ∧
      (stopBatch []).depotOpen ∧ (stopBatch []).nvc.batch.stops.length < (stopBatch []).nvc.batch.declared ∧
      (answerTo (.putRecord true stopImage) (stopBatch [])).map Answer.items = some [1#8] ∧
      (stopBatch platforms).nvc.batch.declared ≤ (stopBatch platforms).nvc.batch.stops.length ∧
      (answerTo (.putRecord true stopImage) (stopBatch platforms)).map Answer.reason = some .count ∧
      (after (.putRecord true stopImage) (stopBatch platforms)).nvc.batch.state = .aborted) ∧
    (after (.closeTable true 2#8 7#8 304600#24) inDepot).nvc.op.map InFlight.op = some (.close .stops 0) ∧
    parseConfig 0xE000#16 car.image = parseConfig 0#16 car.image ∧ (parseConfig 0#16 car.image).isSome = true ∧
    (let s := inDepot.onNv (fun nv => { nv with idLock := true })
     s.depotOpen ∧ (answerTo (.programIdentity true 5#32 256#16) s).map Answer.reason = some .locked) := by decide +kernel

/-- R177 to R187: each refusal past the gate, and the bounds of a batch. -/
theorem witness_DepotRequestsAreRefused :
    tableOf 4#8 = none ∧ loadTableOf 3#8 = none ∧ tableOf 1#8 = some .profile ∧ loadTableOf 1#8 = some .profile ∧
      (let s := batchOf 1 inDepot
       s.depotOpen ∧ (s.nv.info .profile).lock = false ∧ s.nvc.batch.state ≠ .none ∧ s.nvc.batch.table = some .profile ∧
         parseSegment (List.replicate 15 0xFF#8) = none ∧ s.nvc.batch.state = .opened) ∧
      (inDepot.nv.info .stops).lock = false ∧ (inDepot.nv.info .stops).state ≠ .closed ∧
      (inDepot.nv.info .profile).state ∉ [TableState.empty, .loading] ∧
      (let s := (inDepot.onNv (fun nv => { nv with stops := List.replicate 20 (platforms.headD
         { number := 0, reference := 0, tolerance := 0, sides := .a, marker := none, windows := [] }) }))
       s.depotOpen ∧ s.nvc.batch.state = .none ∧ (s.nv.info .stops).state ∈ [TableState.empty, .loading] ∧
         48 < s.nv.stored .stops + (29#8).toNat ∧ s.nv.stored .stops + (28#8).toNat ≤ 48 ∧
         (answerTo (.openBatch true 2#8 29#8) s).map Answer.reason = some .full ∧
         (answerTo (.openBatch true 2#8 28#8) s).map Answer.reason = some .none) ∧
      (let s := inDepot.onNvc (fun n => { n with batch := { n.batch with state := .aborted } })
       s.depotOpen ∧ s.nvc.batch.state = .aborted) ∧
      (let s := inDepot.onNv (fun nv => { nv with profileT := { closedTable with state := .loading }, carT := closedTable })
       s.depotOpen ∧ s.nvc.batch.state = .none ∧ s.nv.carT.lock = false ∧
         (s.nv.info .profile).state ∈ [TableState.empty, .loading] ∧ (0#8 : Byte) ≠ 1#8 ∧
         parseConfig 0#16 (List.replicate 66 0xFF#8) = none) ∧
      inDepot.nv.idLock = false ∧ 255 < (256#16).toNat := by decide +kernel

theorem witness_OperationsEndAsRecorded :
    (let s := flying (.erase .stops) 3000 3000 inDepot
     s.nvc.op = some { op := .erase .stops, limit := 3000, elapsed := 3000 } ∧ s.nvc.lockout = false) ∧
    (let s := flying (.close .profile 410000) 0 500 (batchOf 2 inDepot)
     s.nvc.op = some { op := .close .profile 410000, limit := 500, elapsed := 0 } ∧ s.nv.segments ≠ []) ∧
    (let s := flying (.unlock .car) 3000 3000 inDepot
     let t := after (.nvTimeLimit { written := 0, mask := 0, lineEnd := false, lockCleared := true }) s
     s.nvc.op = some { op := .unlock .car, limit := 3000, elapsed := 3000 } ∧ (s.nv.info .car).lock = true ∧
       (t.nv.info .car).lock = true ∧ t.nvc.opRec = some { op := .unlock .car, result := .faultTime }) ∧
    (let s := after (.commitBatch true) ((batchOf 2 inDepot).onNv (fun nv =>
       { nv with segments := [], profileT := { closedTable with state := .loading } }))
     let t := after .nvWriteConfirmed s
     s.nvc.op = some { op := .commit .profile, limit := 10, elapsed := 0 } ∧ s.nvc.batch.segments = branch.take 2 ∧
       s.nv.segments = [] ∧ t.nv.segments = branch.take 2 ∧ (t.nv.info .profile).state = .loading ∧ t.nvc.op = none ∧ t.nvc.batch.state = .none ∧
       t.nvc.opRec = some { op := .commit .profile, result := .done }) ∧
    inDepot.nvc.op = none ∧
    (let u : Unwritten := { state := .closed, check := none, running := true }
     let s := inDepot.onNv (fun nv => { nv with stopsT := { nv.stopsT with unwritten := some u } })
     (s.nv.info .stops).unwritten = some u ∧ u.running = true) := by decide +kernel

/-! ## Clauses beside the above -/

/-- R103, R108, R114: SERVICE in INTERVENE off the rack, OFF while driving, HOLD at standstill; holding set there, and kept while the car is
not driving. -/
theorem witness_WheelBrakeDemand :
    (let t := bcuEval ((moving driving).onSsu (fun u => { u with state := .intervene }))
     t.ssu.state ≠ .trip ∧ t.bcu.test.running = none ∧ t.engaged = false ∧ t.bcu.wbDemand = .service) ∧
    (let t := bcuEval driving
     t.bcu.traction = true ∧ t.bcu.holdCmd = false ∧ t.bcu.wbDemand = .off) ∧
    (let s := atStop.onBcu (fun b => { b with holdCmd := false })
     let t := bcuEval s
     s.bcu.holdCmd = false ∧ t.pou.standstill = true ∧ t.bcu.driveReq = false ∧ t.bcu.holdCmd = true ∧
       t.bcu.wbDemand = .hold) ∧
    (atStop.bcu.holdCmd = true ∧ atStop.summaryTrue ∧ (bcuEval atStop).bcu.traction = false) ∧
    (bcuEval (testing .running4 none)).bcu.wbDemand = .full := by decide +kernel

/-- A car with a movement authority up to `far`. -/
def upTo (far : Nat) : State :=
  recompute ((standing .service 100000 200).onAut (fun a => { a with chain := [authority 530 97000 far .up 700] }))

/-- R80 to R84, R88: the far end 1,300 cm ahead on +65 per mille, A 120: the term is 183, the curve the root of 2 x 183 x 500; the far end
behind the front; the over-body limit; the mode cap. -/
theorem witness_SupervisionRecord :
    ((upTo 101500).modeCap.1 ≠ (upTo 101500).permitted ∧ (upTo 101500).permitted = 427 ∧
      (upTo 101500).overBody.map Prod.fst ≠ some 427 ∧
      (upTo 101500).supRecord = { source := .authorityEnd, target := some 101500, aEff := some 183, overBody := some 700 }) ∧
    (upTo 100200).supRecord = { source := .authorityEnd, target := some 100200, aEff := none, overBody := some 700 } ∧
    ((running 119000 200).overBody = some (400, .segment 2) ∧ (running 119000 200).permitted = 400 ∧
      (running 119000 200).modeCap.1 ≠ 400 ∧ (running 119000 200).supRecord.source = .segment 2) ∧
    (ready.modeCap.1 = ready.permitted ∧ ready.supRecord.source = .modeCap .mode) := by decide +kernel

/-- R47, R48, R93, R95: a pinion pulse on the rack that takes the accumulator to the limit, one that does not, and one in TRIP. -/
theorem witness_PinionPulseRollsBack :
    (let s := (moving onRack).onPou (fun p => { p with lastDir := .down, rollback := 3500 })
     s.pou.engagement = .engaged ∧ s.pou.lastDir ≠ s.aut.selected ∧ s.ctl.mode ≠ .start ∧ s.ctl.mode ≠ .ready ∧
       s.pou.rollbackReported = false ∧ s.cfg.rollbackLimit * 100 ≤ min (s.pou.rollback + s.cfg.rackPitch) 6553500 ∧
       s.ssu.state ≠ .trip ∧ (after .pinionPulse s).ssu.trip.map TripRecord.first = some .rollback ∧
       ¬ s.cfg.rollbackLimit * 100 ≤ min ((s.pou.rollback - 600) + s.cfg.rackPitch) 6553500 ∧
       (after .pinionPulse (after (.lockSwitchChange .a1 false) s)).ssu.trip.map TripRecord.set =
         some 0b0010010#7) := by decide +kernel

/-- An ON_RACK seek with its wheel distance. -/
def seekingOnRack (dist : Nat) (s : State) : State :=
  s.onPou (fun p =>
    { p with engagement := .seeking { kind := .onRack, wheelDist := dist, ref := none, good := 0, fault := false } })

/-- R43, R44: 200 cm reached by a wheel pulse of 140, outside TRIP and in it; the silence completed on RACK; a seek that rolls back. -/
theorem witness_WheelPulseOfASeek :
    (let s := seekingOnRack 19860 (moving onRack)
     s.ssu.state ≠ .trip ∧ s.lrs.settings.wheelCirc / s.cfg.wheelPulses = 140 ∧
       (after (.wheelPulse .up) s).ssu.trip.map TripRecord.first = some .engageFault ∧
       (after (.wheelPulse .up) (seekingOnRack 19859 (moving onRack))).ssu.state ≠ .trip ∧
       (after (.wheelPulse .up) (after (.lockSwitchChange .a1 false) s)).ssu.trip.map TripRecord.set = some 0b0010100#7) ∧
    (let s := (moving onRack).onPou (fun p => { p with silenceDist := 3100 })
     s.pou.engagement = .engaged ∧ 3 * s.cfg.rackPitch ≤ s.pou.silenceDist + 140 ∧
       s.pinionSegment.map (fun p => p.seg.kind) = some .rack ∧ s.ssu.state ≠ .trip ∧
       (after (.wheelPulse .up) s).ssu.trip.map TripRecord.first = some .pinionSignal) ∧
    (let s := (seekingOnRack 0 (moving onRack)).onPou (fun p => { p with rollback := 3860 })
     s.pou.rollbackReported = false ∧ s.ssu.state ≠ .trip ∧
       (after (.wheelPulse .down) s).ssu.trip.map TripRecord.first = some .rollback) := by decide +kernel

/-- R91, R122: step 2 with the EB lost in INTERVENE on the rack; a PARK in step 5. -/
theorem witness_AbortsOnTheWay :
    (let s := (onRack.onSsu (fun u => { u with state := .intervene })).onBcu (fun b => { b with test := .running2 })
     let t := after (.ebReadyChange false) s
     s.inp.settling = none ∧ s.bcu.test ≠ .running5 ∧ s.bcu.ebAvail = true ∧ s.pou.last.engagement = .engaged ∧
       s.bcu.test.running = some 2 ∧ t.ssu.vPerm < s.pou.last.vMeas + s.cfg.warnMargin ∧
       s.pou.last.vMeas ≤ t.ssu.vPerm + s.cfg.intervMargin ∧ t.ssu.trip.map TripRecord.first = some .ebLostOnRack ∧
       t.bcu.testRec.map TestRecord.reason = some .abortTrip) ∧
    (let s := testing .running5 (some 500)
     s.bcu.test.running = some 5 ∧ s.servesRequests ∧ s.ctl.mode = .service ∧ s.pou.standstill = true ∧
       s.bcu.holdConf = true ∧ s.dcu.secure = true ∧ (after .park s).bcu.test = .notDone ∧
       (after .park s).cmp.causes.getLsbD 11 = true) := by decide +kernel

/-- R112: PB1 shown released at the start of driving. -/
theorem witness_ReleaseAtTheStartOfDriving :
    let s := driving.onInp (fun i => { i with levels := { i.levels with pb1 := ⟨false, false⟩ } })
    (s.bcu.band .pb1).state = .releasing ∧ (s.bcu.band .pb1).demand = .release ∧
      shownReleased (setBandSwitch .released true (bandLevels s.inp.levels .pb1)) = true ∧ s.pou.standstill = true ∧
      s.bcu.holdCmd = false ∧ s.bcu.driveReq = true ∧ s.bcu.failing s.readings = [] ∧ s.summaryTrue ∧
      (after (.bandSwitchChange .pb1 .released true) s).bcu.pb1.state = .released := by decide +kernel

/-- R159 to R161: the REPORT an idle transmitter sends for a PROBE, with the link UP and with it LOST. -/
theorem witness_ProbeIsReported :
    (let s := linked .up 100 .on none
     s.directed 23#8 ∧ s.newSequence 9#8 ∧ s.vru.sending = none ∧ s.vru.queue = [] ∧
       (after (.probe 23#8 9#8) s).vru.sending.map (fun f => f.take 4 ++ (f.drop 5).take 3) =
         some [0xA5#8, 23#8, 0x82#8, s.vru.txSeq, Occasion.probe.code, 1#8, 9#8]) ∧
    (let s := linked .lost 100 .on none
     s.vru.sending = none ∧ s.vru.queue = [] ∧
       (after (.probe 23#8 9#8) s).vru.sending.map (fun f => (f.drop 5).take 3) =
         some [Occasion.linkUp.code, 1#8, 9#8]) := by decide +kernel

/-- R54, R156: a SHORTEN, a REVOKE and a RESTRICT that finds a full list, from a broadcast; a LIFT in START. -/
theorem witness_BroadcastsToTheTables :
    ((running 100000 200).listening ∧ (after (.revoke 0#8 1#8 530#16) (running 100000 200)).aut.chain.length = 1 ∧
      (after (.shorten 0#8 1#8 530#16 110000#24) (running 100000 200)).aut = (running 100000 200).aut) ∧
    (let s := restricted fullList atStop
     s.listening ∧ s.ctl.mode ≠ .start ∧
       (after (.restrictFrame 0#8 1#8 900#16 0#24 410000#24 500#16 3#8) s).lrs.overflow = some ⟨0, 410000, 500⟩) ∧
    (after (.liftFrame 23#8 1#8 7#16) (starting 2 600)).vru.lastTaken =
      some { seq := 1#8, kind := .lift, outcome := .mode, slot := none } := by decide +kernel

end Sys2Proof.Tests
end

/-! SUPPORT. The frame of each owner, and of a whole command: what is left of a command's frame once the operations it is made of
have theirs. -/

namespace Sys2Proof.Machine

/-! ## What a frame says of a block in two parts -/

/-- The POU of two states that agree on both its blocks. -/
theorem Keeps.pou {l : List Block} {s t : State} (h : Keeps l s t) (hp : Block.pou ∉ l := by decide)
    (hr : Block.rollback ∉ l := by decide) : t.pou = s.pou := by
  have k1 : t.pou.zeroRollback = s.pou.zeroRollback := h .pou hp
  obtain ⟨k2, k3⟩ : t.pou.rollback = s.pou.rollback ∧ t.pou.rollbackReported = s.pou.rollbackReported := h .rollback hr
  have hz : ∀ p : Pou, p = { p.zeroRollback with rollback := p.rollback, rollbackReported := p.rollbackReported } := fun _ => rfl
  rw [hz t.pou, k1, k2, k3, ← hz]

/-- The VRU of two states that agree on both its blocks. -/
theorem Keeps.vru {l : List Block} {s t : State} (h : Keeps l s t) (hr : Block.radio ∉ l := by decide)
    (ht : Block.transmitter ∉ l := by decide) : t.vru = s.vru := by
  have k : t.vru.lessTransmitter = s.vru.lessTransmitter := h .radio hr
  obtain ⟨h1, h2, h3, h4, h5, h6, h7⟩ := h .transmitter ht
  have hv : ∀ v : Vru, v = { v.lessTransmitter with queue := v.queue, sending := v.sending, sendTimer := v.sendTimer, txSeq := v.txSeq,
                                                    reportTimer := v.reportTimer, burstCount := v.burstCount,
                                                    burstTimer := v.burstTimer } := fun _ => rfl
  rw [hv t.vru, k, h1, h2, h3, h4, h5, h6, h7, ← hv]

/-- The cause set of two states that agree on it. -/
theorem Keeps.causes {l : List Block} {s t : State} (h : Keeps l s t) (hl : Block.causes ∉ l := by decide) :
    t.cmp.causes = s.cmp.causes := (h .causes hl).1

/-! ## Whole commands -/

/-- A command that ends in `finish` changes what it changed before, and the transmitter. -/
theorem Keeps.finished {l m : List Block} {s u t : State} (h : Keeps l s u) (ht : finish u = .next t)
    (hm : ∀ b ∈ Block.transmitter :: l, b ∈ m := by decide) : Keeps m s t :=
  (finish_keeps h ht).mono hm

/-- A command that reads input lines before what it brings, and ends in `finish`. -/
theorem Keeps.finishedInp {l m : List Block} {f : Inp → Inp} {s u t : State} (h : Keeps l (s.onInp f) u) (ht : finish u = .next t)
    (hm : ∀ b ∈ Block.transmitter :: .inp :: l, b ∈ m := by decide) : Keeps m s t :=
  ((onInp_keeps f s).mono (by simp)).trans (h.mono (fun _ hb => List.mem_cons_of_mem _ hb)) |>.finished ht hm

theorem clockZeros_keeps (s : State) : Keeps [.port] s (clockZeros s) := onCmp_keeps_causes s ⟨rfl, rfl, rfl⟩

/-- A request changes the port, what its owner changes, and the transmitter. -/
theorem request_keeps {l m : List Block} {owner : State → Owned} {code : Byte} {status : Bool} {s t : State}
    (h : ∀ u, Keeps l u (owner u).2) (ht : request code status owner s = .next t)
    (hm : ∀ b ∈ Block.transmitter :: .port :: l, b ∈ m := by decide) : Keeps m s t :=
  ((clockZeros_keeps s).mono (by simp)).trans (takeRequest_keeps h code status (clockZeros s)) |>.finished ht hm

/-- A request whose owner only reports changes the port and the transmitter. -/
theorem request_keeps_of_reads {owner : State → Owned} {code : Byte} {status : Bool} {s t : State}
    (h : ∀ u, (owner u).2 = u) (ht : request code status owner s = .next t) : Keeps [.port, .transmitter] s t :=
  request_keeps (l := []) (fun u => (h u).symm ▸ Keeps.refl _ u) ht

theorem answerFrame_keeps (code : Byte) (a : Answer) (s : State) : Keeps [.port] s (answerFrame code a s) :=
  Keeps.ite (Keeps.refl _ s) (onCmp_keeps_causes s ⟨rfl, rfl, rfl⟩)

theorem takeBadFrame_keeps (s : State) : Keeps [.port] s (takeBadFrame s) :=
  (clockZeros_keeps s).trans (answerFrame_keeps _ _ _)

theorem read_keeps (n : Nat) (ends : Bool) (s : State) : Keeps [.port] s (s.onCmp (Cmp.read n ends)) := by
  refine onCmp_keeps_causes s ?_
  unfold Cmp.read
  dsimp only
  repeat' split
  all_goals exact ⟨rfl, rfl, rfl⟩

theorem respond_keeps (s : State) : Keeps [.port] s (s.onCmp Cmp.respond) := by
  refine onCmp_keeps_causes s ?_
  unfold Cmp.respond
  split <;> exact ⟨rfl, rfl, rfl⟩

/-! ## Owners that only read -/

theorem readObstruction_reads (b : Byte) (s : State) : (readObstruction b s).2 = s := by
  unfold readObstruction; split <;> rfl

theorem readOf_reads (x : Table) {owner : State → Owned} (h : ∀ s, (owner s).2 = s) (s : State) :
    (readOf x owner s).2 = s := by
  unfold readOf
  split
  · rfl
  · exact h s

theorem readSegment_reads (i : Nat) (s : State) : (readSegment i s).2 = s := by
  unfold readSegment; split <;> rfl

theorem findStop_reads (n : Nat) (s : State) : (findStop n s).2 = s := by
  unfold findStop; split <;> rfl

theorem readRestriction_reads (n : Nat) (s : State) : (readRestriction n s).2 = s := by
  unfold readRestriction; split <;> rfl

theorem readAuthority_reads (n : Nat) (s : State) : (readAuthority n s).2 = s := by
  unfold readAuthority; split <;> rfl

/-! ## Owners on the line -/

theorem setSetting_keeps (b : Byte) (v : Nat) (s : State) :
    Keeps ([.lrs, .radio, .aut] ++ tripBlocks) s (setSetting b v s).2 := by
  unfold setSetting
  split
  · exact Keeps.refl _ s
  · split
    · exact Keeps.refl _ s
    · split
      · exact Keeps.refl _ s
      · exact Keeps.ite (.after (judgeLink_keeps _) ((onLrs_keeps _ s).mono)) ((onLrs_keeps _ s).mono)

theorem setPosition_keeps (c : Nat) (s : State) : Keeps [.pou, .rollback] s (setPosition c s).2 := by
  unfold setPosition
  repeat' split
  any_goals exact Keeps.refl _ s
  exact onPou_keeps _ s

theorem selectDirection_keeps (b : Byte) (s : State) : Keeps (.aut :: tripBlocks) s (selectDirection b s).2 := by
  unfold selectDirection
  repeat' split
  any_goals exact Keeps.refl _ s
  exact .after (recompute_keeps _) (.after (zeroRollback_keeps _) ((onAut_keeps _ s).mono))

theorem crewAnswer_state (d : Decided) : (crewAnswer d).2 = d.state := by
  unfold crewAnswer; split <;> rfl

theorem tripReset_keeps (s : State) : Keeps tripBlocks s (tripReset s).2 := by
  unfold tripReset
  split
  · exact Keeps.refl _ s
  · exact Keeps.ite (leaveTrip_keeps s) (Keeps.refl _ s)

theorem driveRequest_keeps (b : Byte) (s : State) : Keeps evalBlocks s (driveRequest b s).2 := by
  unfold driveRequest
  repeat' split
  any_goals exact Keeps.refl _ s
  all_goals exact setDrive_keeps _ s

theorem brakeTest_keeps (n : Nat) (s : State) : Keeps tripBlocks s (brakeTest n s).2 := by
  unfold brakeTest
  repeat' split
  any_goals exact Keeps.refl _ s
  exact startStep_keeps n s

/-! ## Owners at the doors -/

theorem releaseOn_keeps (x : Side) (m : ReleaseMode) (ls : List Leaf) (stop : Option Nat) (s : State) :
    Keeps evalBlocks s (releaseOn x m ls stop s) :=
  .after (doorsSettled_keeps _) ((onDcu_keeps _ s).mono)

theorem releaseAtStop_keeps (x : Side) (m : ReleaseMode) (s : State) : Keeps evalBlocks s (releaseAtStop x m s).2 := by
  unfold releaseAtStop
  split
  · exact Keeps.refl _ s
  · exact Keeps.refl _ s
  · exact releaseOn_keeps _ _ _ _ s

theorem doorRelease_keeps (b c : Byte) (s : State) : Keeps evalBlocks s (doorRelease b c s).2 := by
  unfold doorRelease releaseSide
  repeat' split
  any_goals exact Keeps.refl _ s
  · exact releaseAtStop_keeps _ _ s
  · exact releaseOn_keeps _ _ _ _ s

theorem sideRequest_keeps {l : List Block} {act : Side → State → State} (h : ∀ x s, Keeps l s (act x s)) (b : Byte)
    (s : State) : Keeps l s (sideRequest b act s).2 := by
  unfold sideRequest
  repeat' split
  any_goals exact Keeps.refl _ s
  exact h _ s

theorem closeSide_keeps (x : Side) (s : State) : Keeps evalBlocks s (closeSide x s) :=
  .after (doorsSettled_keeps _) ((onDcu_keeps _ s).mono)

theorem doorIsolate_keeps (b : Byte) (s : State) : Keeps evalBlocks s (doorIsolate b s).2 := by
  unfold doorIsolate
  repeat' split
  any_goals exact Keeps.refl _ s
  exact .after (doorsSettled_keeps _) (.after (latch_keeps _ _) ((onLeaf_keeps _ _ s).mono))

theorem doorRestore_keeps (b : Byte) (s : State) : Keeps evalBlocks s (doorRestore b s).2 := by
  unfold doorRestore
  repeat' split
  any_goals exact Keeps.refl _ s
  exact .after (doorsSettled_keeps _) (.after (latchIf_keeps _ _ _) ((onLeaf_keeps _ _ s).mono))

/-! ## Owners of the radio and the mode -/

theorem holdRadio_keeps (on : Bool) (s : State) : Keeps ([.radio, .aut] ++ tripBlocks) s (holdRadio on s) := by
  unfold holdRadio
  split
  · exact (onVru_keeps _ s).mono
  · exact (onVru_keeps _ s).mono
  · exact Keeps.refl _ s
  · exact transceiverOn_keeps _ s
  · exact Keeps.refl _ s
  · exact Keeps.refl _ s

theorem radioHold_keeps (b : Byte) (s : State) : Keeps ([.radio, .aut] ++ tripBlocks) s (radioHold b s).2 := by
  unfold radioHold
  repeat' split
  any_goals exact Keeps.refl _ s
  exact holdRadio_keeps _ s

theorem radioRestart_keeps (s : State) : Keeps [.radio, .transmitter] s (radioRestart s).2 := by
  unfold radioRestart
  repeat' split
  any_goals exact Keeps.refl _ s
  exact onVru_keeps _ s

theorem enterService_keeps (s : State) : Keeps ([.ctl, .nvc] ++ tripBlocks) s (enterService s).2 := by
  unfold enterService
  repeat' split
  any_goals exact Keeps.refl _ s
  exact changeMode_keeps _ s

theorem enterDepot_keeps (s : State) : Keeps (.ctl :: tripBlocks) s (enterDepot s).2 := by
  unfold enterDepot
  repeat' split
  any_goals exact Keeps.refl _ s
  exact changeMode_keeps_nvc (by decide) s

theorem park_keeps (s : State) : Keeps ([.aut, .radio, .ctl] ++ tripBlocks) s (park s).2 := by
  unfold park
  repeat' split
  any_goals exact Keeps.refl _ s
  exact parkCar_keeps s

theorem wake_keeps (s : State) : Keeps ([.pou, .radio, .aut, .ctl] ++ tripBlocks) s (wake s).2 := by
  unfold wake
  split
  · exact Keeps.refl _ s
  · exact wakeCar_keeps s

/-! ## Owners of the store -/

theorem eraseTable_keeps (x : Table) (s : State) : Keeps ([.nv, .nvc, .lrs] ++ tripBlocks) s (eraseTable x s).2 := by
  unfold eraseTable
  repeat' split
  any_goals exact Keeps.refl _ s
  exact startOp_keeps _ s

theorem onBatch_keeps (f : Batch → Batch) (s : State) : Keeps [.nvc] s (onBatch f s) := onNvc_keeps _ s

theorem openBatch_keeps (n : Nat) (x : Table) (s : State) : Keeps [.nvc] s (openBatch n x s).2 := by
  unfold openBatch
  repeat' split
  any_goals exact Keeps.refl _ s
  exact onBatch_keeps _ s

theorem putRecord_keeps (image : List Byte) (s : State) : Keeps [.nvc] s (putRecord image s).2 := by
  unfold putRecord
  repeat' split
  any_goals exact Keeps.refl _ s
  all_goals exact onBatch_keeps _ s

theorem commitBatch_keeps (s : State) : Keeps ([.nv, .nvc, .lrs] ++ tripBlocks) s (commitBatch s).2 := by
  unfold commitBatch
  repeat' split
  any_goals exact Keeps.refl _ s
  any_goals exact (onBatch_keeps _ s).mono
  exact .after (startOp_keeps _ _) ((onBatch_keeps _ s).mono)

theorem batchReset_keeps (s : State) : Keeps [.nvc] s (batchReset s).2 := by
  unfold batchReset
  split
  · exact Keeps.refl _ s
  · exact onBatch_keeps _ s
  · exact onBatch_keeps _ s
  · exact Keeps.refl _ s

theorem closeTable_keeps (p : Byte) (e : Nat) (x : Table) (s : State) :
    Keeps ([.nv, .nvc, .lrs] ++ tripBlocks) s (closeTable p e x s).2 := by
  unfold closeTable
  repeat' split
  any_goals exact Keeps.refl _ s
  all_goals exact startOp_keeps _ s

theorem writeCarRecord_keeps (m : Half) (image : List Byte) (s : State) :
    Keeps ([.nv, .nvc, .lrs] ++ tripBlocks) s (writeCarRecord m image s).2 := by
  unfold writeCarRecord
  repeat' split
  any_goals exact Keeps.refl _ s
  exact startOp_keeps _ s

theorem programIdentity_keeps (serial cls : Nat) (s : State) : Keeps [.nvc] s (programIdentity serial cls s).2 := by
  unfold programIdentity
  repeat' split
  any_goals exact Keeps.refl _ s
  exact startOp_keeps_unmarked rfl s

theorem lockTable_keeps (x : Table) (s : State) : Keeps [.nvc] s (lockTable x s).2 := by
  unfold lockTable
  repeat' split
  any_goals exact Keeps.refl _ s
  exact startOp_keeps_unmarked rfl s

theorem unlockTable_keeps (x : Table) (s : State) : Keeps ([.nv, .nvc, .lrs] ++ tripBlocks) s (unlockTable x s).2 := by
  unfold unlockTable
  repeat' split
  any_goals exact Keeps.refl _ s
  exact startOp_keeps _ s

/-! ## Events of the radio and the supply -/

theorem silenceReaches_keeps (n : Nat) (s : State) : Keeps ([.radio, .aut] ++ tripBlocks) s (silenceReaches n s) :=
  .after (judgeLink_keeps _) ((onVru_keeps _ s).mono)

/-- A periodic REPORT and the report timer started again touch the transmitter alone (R163). -/
theorem queueReport_startReport_lessTransmitter (o : Occasion) (ps : Option Byte) (v : Vru) :
    (v.queueReport o ps).startReport.lessTransmitter = v.lessTransmitter := queueReport_lessTransmitter o ps v

theorem burstOne_lessTransmitter (v : Vru) : v.burstOne.lessTransmitter = v.lessTransmitter := by
  unfold Vru.burstOne
  dsimp only
  split <;> rfl

/-- One REPORT of a trip burst touches the transmitter alone (R164). -/
theorem queueReport_burstOne_lessTransmitter (o : Occasion) (ps : Option Byte) (v : Vru) :
    (v.queueReport o ps).burstOne.lessTransmitter = v.lessTransmitter :=
  (burstOne_lessTransmitter _).trans (queueReport_lessTransmitter o ps v)

theorem setRx_keeps (bytes : List Byte) (s : State) : Keeps [.radio, .transmitter] s (setRx bytes s) := onVru_keeps _ s

theorem probeDirected_keeps (seq : Byte) (s : State) : Keeps [.radio, .transmitter] s (probeDirected seq s) := by
  unfold probeDirected
  repeat' split
  all_goals exact onVru_keeps _ s

theorem supplyLockout_keeps (cut : Cut) (s : State) : Keeps ([.nv, .nvc] ++ tripBlocks) s (supplyLockout cut s) := by
  have h : Keeps ([.nv, .nvc] ++ tripBlocks) s ((s.onNvc (fun n => { n with lockout := true })).onNv (Nv.setRunning false)) :=
    .after (onNv_keeps _ _) ((onNvc_keeps _ s).mono)
  unfold supplyLockout
  dsimp only
  split
  · exact h
  · exact .after (faultOp_keeps _ _ _ _) h

/-- What the time up to an update, the update and its receivers may change (R34). -/
theorem execPositionUpdate_keeps {s t : State} (h : execPositionUpdate s = .next t) :
    Keeps ([.pou, .aut, .radio, .nvc, .ctl, .port, .inp] ++ tripBlocks) s t := by
  have he : Keeps ([.pou, .aut, .radio, .nvc, .ctl, .port, .inp] ++ tripBlocks) s (elapse s.toUpdate s) :=
    (elapse_keeps _ s).mono
  have hb := Keeps.after (beforeUpdate_keeps _) he
  have hp := Keeps.after (publish_keeps _) hb
  exact (Keeps.after (actOnUpdate_keeps _) hp).finished h

/-- A full reset changes neither the queue nor the count of free values. -/
theorem fullReset_keeps (cut : Cut) (s : State) : Keeps (touches (.fullReset cut)) s (s.fullReset cut) := by
  intro b hb
  cases b <;> simp_all [Block.same, touches, tripBlocks, evalBlocks, State.fullReset]

/-! ## Commands with a split of their own -/

theorem execDoorSample_keeps {l : Leaf} {c n : Nat} {s t : State} (h : execDoorSample l c n s = .next t) :
    Keeps ([.inp, .transmitter] ++ evalBlocks) s t := by
  have hi : Keeps (.inp :: evalBlocks) s (s.onStroke l n) := (onInp_keeps _ s).mono
  exact (Keeps.ite (Keeps.ite (.after (takeSample_keeps _ _ _ _) hi) hi) (Keeps.refl _ s)).finished h

theorem execStallTimeout_keeps {l : Leaf} {s t : State} (h : execStallTimeout l s = .next t) :
    Keeps (.transmitter :: evalBlocks) s t := by
  obtain hs | ⟨k, -, -, -, hs⟩ := execStallTimeout_cases l s
  · exact (Keeps.refl [] s).finished (hs ▸ h)
  · exact (confirmObstruction_keeps _ _ _ s).finished (hs ▸ h)

theorem execCarKindFrame_keeps {a k : Byte} {s t : State} (h : execCarKindFrame a k s = .next t) :
    Keeps ([.radio, .aut] ++ tripBlocks) s t := by
  refine (Keeps.ite (l := [.radio, .aut] ++ tripBlocks) (Keeps.refl _ s) ?_).finished h
  split
  · exact (heardOther_keeps s).mono
  · exact heard_keeps s
  · exact heard_keeps s

theorem execProbe_keeps {a q : Byte} {s t : State} (h : execProbe a q s = .next t) :
    Keeps ([.radio, .aut] ++ tripBlocks) s t := by
  refine (Keeps.ite (l := [.radio, .aut] ++ tripBlocks) (Keeps.refl _ s) ?_).finished h
  split
  · exact (heardOther_keeps s).mono
  · exact .after (onVru_keeps _ _) (heard_keeps s)
  · exact .after (probeDirected_keeps _ _) (heard_keeps s)

theorem execNvWriteConfirmed_keeps {s t : State} (h : execNvWriteConfirmed s = .next t) :
    Keeps ([.nv, .nvc] ++ tripBlocks) s t := by
  unfold execNvWriteConfirmed at h
  split at h
  · exact (Keeps.refl [] s).finished h
  · exact (Keeps.ite (completeOp_keeps _ s) (Keeps.refl _ s)).finished h

theorem execNvTimeLimit_keeps {cut : Cut} {s t : State} (h : execNvTimeLimit cut s = .next t) :
    Keeps ([.nv, .nvc] ++ tripBlocks) s t := by
  unfold execNvTimeLimit at h
  split at h
  · exact (Keeps.refl [] s).finished h
  · exact (faultOp_keeps _ _ _ s).finished h

theorem execSettleTimerExpiry_keeps {s t : State} (h : execSettleTimerExpiry s = .next t) :
    Keeps ([.ctl, .nvc] ++ tripBlocks) s t := by
  have hs : Keeps ([.ctl, .nvc] ++ tripBlocks) s (s.onCtl (fun c => { c with settle := none })) := (onCtl_keeps _ s).mono
  exact (Keeps.ite (.after (changeMode_keeps _ _) hs) (Keeps.refl _ s)).finished h

theorem execPutRecord_keeps {key : Bool} {image : List Byte} {s t : State} (h : execPutRecord key image s = .next t) :
    Keeps [.port, .inp, .nvc, .transmitter] s t := by
  unfold execPutRecord at h
  split at h
  · exact request_keeps (depotGate_keeps (putRecord_keeps _) _) h
  · exact (takeBadFrame_keeps s).finished h

theorem execWriteCarRecord_keeps {key : Bool} {m : Half} {image : List Byte} {s t : State}
    (h : execWriteCarRecord key m image s = .next t) : Keeps ([.port, .inp, .nvc, .nv, .lrs] ++ tripBlocks) s t := by
  unfold execWriteCarRecord at h
  split at h
  · exact request_keeps (depotGate_keeps (writeCarRecord_keeps _ _) _) h
  · exact (takeBadFrame_keeps s).finished h

end Sys2Proof.Machine

/-! Proofs of the frame of every command. -/

namespace Sys2Proof.Machine

/-- The frame of every command, arm by arm of the dispatch: each is put together from the frames of the operations its meaning names. -/
theorem exec_keeps {c : Instr} {s t : State} (h : exec c s = .next t) : Keeps (touches c) s t := by
  cases c <;> dsimp only [touches, exec] at h ⊢
  case fullReset cut => injection h with h; exact h ▸ fullReset_keeps cut s
  case startSequence => exact (Keeps.ite (startSequence_keeps s) (Keeps.refl _ s)).finished h
  case inputFilterSettled => exact (Keeps.ite (filterSettled_keeps _ s) (Keeps.refl _ s)).finished h
  case verifyWriteConfirmed => exact (onNv_keeps _ s).finished h
  case wheelPulse => exact (wheelPulse_keeps _ s).finished h
  case pinionPulse => exact (pinionPulse_keeps s).finished h
  case markerPulse => exact (markerPulse_keeps s).finished h
  case standstillDeclared => exact (Keeps.ite (Keeps.refl _ s) (declareStandstill_keeps s)).finished h
  case positionUpdate => exact execPositionUpdate_keeps h
  case ebReadyChange => exact Keeps.finishedInp (Keeps.ite (degradeStep5_keeps _) (settleEb_keeps _)) h
  case bandSwitchChange => exact Keeps.finishedInp (bandSwitched_keeps _ _) h
  case releaseTimerExpiry => exact (Keeps.ite (faultBand_keeps _ _ s) (Keeps.refl _ s)).finished h
  case applyTimerExpiry => exact (Keeps.ite (faultBand_keeps _ _ s) (Keeps.refl _ s)).finished h
  case wbPressureChange => exact Keeps.finishedInp (bcuEval_keeps _) h
  case followTimerExpiry => exact (Keeps.ite (followTimeout_keeps s) (Keeps.refl _ s)).finished h
  case step1Timeout => exact (Keeps.ite (step1Fails_keeps s) (Keeps.refl _ s)).finished h
  case step5WatchEnd =>
    exact (Keeps.ite (Keeps.ite (step5Passes_keeps s) (degradeStep5_keeps s)) (Keeps.refl _ s)).finished h
  case buttonEdge => exact Keeps.finishedInp (Keeps.ite (moveLeaf_keeps _ _ _) (Keeps.refl _ _)) h
  case openEndSwitch => exact Keeps.finishedInp (Keeps.ite (moveLeaf_keeps _ _ _) (Keeps.refl _ _)) h
  case closedSwitchChange =>
    exact Keeps.finishedInp (Keeps.ite (Keeps.ite ((moveLeaf_keeps _ _ _).mono) (Keeps.refl _ _)) (closedLost_keeps _ _)) h
  case lockSwitchChange => exact Keeps.finishedInp (Keeps.ite ((lockMade_keeps _ _).mono) (lockLost_keeps _ _)) h
  case openStrokeTimeout => exact (Keeps.ite (faultLeaf_keeps _ s) (Keeps.refl _ s)).finished h
  case closeStrokeTimeout => exact (Keeps.ite (faultLeaf_keeps _ s) (Keeps.refl _ s)).finished h
  case lockTimeout => exact (Keeps.ite (faultLeaf_keeps _ s) (Keeps.refl _ s)).finished h
  case dwellEnd => exact (Keeps.ite (moveLeaf_keeps _ _ s) (Keeps.refl _ s)).finished h
  case warnLeadEnd => exact (Keeps.ite (moveLeaf_keeps _ _ s) (Keeps.refl _ s)).finished h
  case doorSample => exact execDoorSample_keeps h
  case stallTimeout => exact execStallTimeout_keeps h
  case recordExpiry => exact (Keeps.ite (chainChanged_keeps _ s) (Keeps.refl _ s)).finished h
  case silenceReaches4s => exact (Keeps.ite (silenceReaches_keeps _ s) (Keeps.refl _ s)).finished h
  case silenceReachesLostLimit => exact (Keeps.ite (Keeps.refl _ s) (silenceReaches_keeps _ s)).finished h
  case reportTimerExpiry =>
    exact (Keeps.ite (onVru_keeps_radio (f := fun v => (v.queueReport .periodic none).startReport) s
      (queueReport_startReport_lessTransmitter _ _ _)) (Keeps.refl _ s)).finished h
  case burstTimerExpiry =>
    exact (Keeps.ite (onVru_keeps_radio s (queueReport_burstOne_lessTransmitter _ _ _)) (Keeps.refl _ s)).finished h
  case broadcastReportDelay => exact (Keeps.ite (onVru_keeps _ s) (Keeps.refl _ s)).finished h
  case restartTimerExpiry => exact (Keeps.ite (transceiverOn_keeps _ s) (Keeps.refl _ s)).finished h
  case carFrameSent => exact (Keeps.ite (onVru_keeps_radio s rfl) (Keeps.refl _ s)).finished h
  case frameDiscarded => exact (Keeps.ite (setRx_keeps _ s) (Keeps.refl _ s)).finished h
  case frameGapTimeout => exact (Keeps.ite (setRx_keeps _ s) (Keeps.refl _ s)).finished h
  case foreignFrame => exact (Keeps.ite (heardOther_keeps s) (Keeps.refl _ s)).finished h
  case carKindFrame => exact execCarKindFrame_keeps h
  case grant => exact (valleyFrame_keeps (grantRecord_keeps _ _ _ _ _ _) _ _ _ _ s).finished h
  case shorten => exact (valleyFrame_keeps (shortenRecord_keeps _ _) _ _ _ _ s).finished h
  case revoke => exact (valleyFrame_keeps (revokeRecord_keeps _) _ _ _ _ s).finished h
  case restrictFrame =>
    exact (valleyFrame_keeps (notInStart_keeps (restrictBy_keeps _ _ _ _ _ _)) _ _ _ _ s).finished h
  case liftFrame => exact (valleyFrame_keeps (notInStart_keeps (liftBy_keeps _ _)) _ _ _ _ s).finished h
  case flushOverflow => exact (valleyFrame_keeps (notInStart_keeps flushOverflow_keeps) _ _ _ _ s).finished h
  case stopClose => exact (valleyFrame_keeps (stopCloses_keeps _) _ _ _ _ s).finished h
  case stopOpen => exact (valleyFrame_keeps (stopOpens_keeps _) _ _ _ _ s).finished h
  case probe => exact execProbe_keeps h
  case supplyLockout => exact (Keeps.ite (Keeps.refl _ s) (supplyLockout_keeps _ s)).finished h
  case supplyNormal => exact ((onNvc_keeps _ s).andThen (n := [.nv, .nvc]) (onNv_keeps _ _)).finished h
  case nvWriteConfirmed => exact execNvWriteConfirmed_keeps h
  case nvTimeLimit => exact execNvTimeLimit_keeps h
  case settleTimerExpiry => exact execSettleTimerExpiry_keeps h
  case readTransaction => exact (read_keeps _ _ s).finished h
  case badFrame => exact (takeBadFrame_keeps s).finished h
  case unknownRequest => exact ((clockZeros_keeps s).trans (answerFrame_keeps _ _ _)).finished h
  case responseReady => exact (respond_keeps s).finished h
  case readPosition => exact request_keeps_of_reads (fun _ => rfl) h
  case readSupervision => exact request_keeps_of_reads (fun _ => rfl) h
  case readTrip => exact request_keeps_of_reads (fun _ => rfl) h
  case readBrakes => exact request_keeps_of_reads (fun _ => rfl) h
  case readDoors => exact request_keeps_of_reads (fun _ => rfl) h
  case readObstruction => exact request_keeps_of_reads (readObstruction_reads _) h
  case readLink => exact request_keeps (fun u => onVru_keeps _ u) h
  case readTables => exact request_keeps (withKey_keeps (report_keeps _) _) h
  case readMode => exact request_keeps_of_reads (fun _ => rfl) h
  case readCauses => exact request_keeps_of_reads (fun _ => rfl) h
  case clearCauses => exact request_keeps (clearCauses_keeps _) h
  case setCauseMask => exact request_keeps (setCauseMask_keeps _) h
  case lookupAt => exact request_keeps_of_reads (readOf_reads _ (fun _ => rfl)) h
  case readSegment => exact request_keeps_of_reads (readOf_reads _ (readSegment_reads _)) h
  case findStop => exact request_keeps_of_reads (readOf_reads _ (findStop_reads _)) h
  case readRestriction => exact request_keeps_of_reads (readRestriction_reads _) h
  case readAuthority => exact request_keeps_of_reads (readAuthority_reads _) h
  case readCarRecord => exact request_keeps_of_reads (readOf_reads _ (fun _ => rfl)) h
  case readSettings => exact request_keeps_of_reads (fun _ => rfl) h
  case setSetting => exact request_keeps (setSetting_keeps _ _) h
  case setPosition => exact request_keeps (setPosition_keeps _) h
  case selectDirection => exact request_keeps (selectDirection_keeps _) h
  case restrict => exact request_keeps (fun u => (crewAnswer_state _).symm ▸ restrictBy_keeps _ _ _ _ _ _ u) h
  case lift => exact request_keeps (fun u => (crewAnswer_state _).symm ▸ liftBy_keeps _ _ u) h
  case tripReset => exact request_keeps tripReset_keeps h
  case driveRequest => exact request_keeps (driveRequest_keeps _) h
  case brakeTest => exact request_keeps (brakeTest_keeps _) h
  case doorRelease => exact request_keeps (doorRelease_keeps _ _) h
  case doorWithdraw => exact request_keeps (sideRequest_keeps withdrawSide_keeps _) h
  case doorClose => exact request_keeps (sideRequest_keeps closeSide_keeps _) h
  case doorIsolate => exact request_keeps (doorIsolate_keeps _) h
  case doorRestore => exact request_keeps (doorRestore_keeps _) h
  case radioHold => exact request_keeps (radioHold_keeps _) h
  case radioRestart => exact request_keeps radioRestart_keeps h
  case enterService => exact request_keeps enterService_keeps h
  case enterDepot => exact request_keeps (withKey_keeps enterDepot_keeps _) h
  case park => exact request_keeps park_keeps h
  case wake => exact request_keeps wake_keeps h
  case eraseTable => exact request_keeps (depotGate_keeps (onTable_keeps eraseTable_keeps _) _) h
  case openBatch => exact request_keeps (depotGate_keeps (onTable_keeps (openBatch_keeps _) _) _) h
  case putRecord => exact execPutRecord_keeps h
  case commitBatch => exact request_keeps (depotGate_keeps commitBatch_keeps _) h
  case batchReset => exact request_keeps (depotGate_keeps batchReset_keeps _) h
  case closeTable => exact request_keeps (depotGate_keeps (onTable_keeps (closeTable_keeps _ _) _) _) h
  case writeCarRecord => exact execWriteCarRecord_keeps h
  case programIdentity => exact request_keeps (depotGate_keeps (programIdentity_keeps _ _) _) h
  case lockTable => exact request_keeps (depotGate_keeps (onTable_keeps lockTable_keeps _) _) h
  case unlockTable => exact request_keeps (depotGate_keeps (onTable_keeps unlockTable_keeps _) _) h

/-- Settles O18: `exec_keeps` says it of every command. -/
theorem everyCommandStaysInItsBlocks : Obligations.EveryCommandStaysInItsBlocks := fun _ _ _ h => exec_keeps h

end Sys2Proof.Machine

/-! Proofs about FULL_RESET. -/

namespace Sys2Proof.Machine

/-- A band brake at full reset: APPLIED with no timer where it is shown applied, else APPLYING on the 0.8 s apply timer (R105). -/
theorem resetBand_eq (l : BandLevels) : (resetBand l).demand = .apply ∧
    ((resetBand l).state, (resetBand l).timer) =
      if shownApplied l then (BandState.applied, none) else (.applying, some 800) := by
  unfold resetBand BandBrake.startApply
  split <;> exact ⟨rfl, rfl⟩

/-- A full reset with no operation in flight keeps the store but for verification writes not yet confirmed (R175, R193). -/
theorem nvAtReset_idle {s : State} (h : s.nvc.op = none) (cut : Cut) : s.nvAtReset cut = s.nv := by
  simp [State.nvAtReset, h]

theorem TableInfo.stored_lock (i : TableInfo) : i.stored.lock = i.lock := by
  unfold TableInfo.stored
  split <;> rfl

/-- What the store holds after the reset: the records, the identity block and the locks of before (R175, R193). -/
theorem Nv.asStored_keeps (nv : Nv) : nv.asStored.records = nv.records ∧ nv.asStored.identity = nv.identity ∧
    nv.asStored.idLock = nv.idLock ∧ ∀ x : Table, (nv.asStored.info x).lock = (nv.info x).lock := by
  refine ⟨rfl, rfl, rfl, fun x => ?_⟩
  cases x <;> exact TableInfo.stored_lock _

/-- Settles O4, block by block: the volatile ones by their reset values, the store by what a reset keeps of it. -/
theorem fullResetEffect : Obligations.FullResetEffect := by
  intro cut s
  refine ⟨s.fullReset cut, rfl, ⟨rfl, rfl, rfl, rfl⟩, ?pou, ⟨rfl, rfl⟩, ⟨rfl, rfl, rfl, rfl⟩, ?bcu, ?leaves, ?sides, rfl, ?vru,
    ⟨rfl, rfl, rfl, rfl, rfl, rfl⟩, ⟨rfl, rfl, rfl, rfl, rfl⟩, ⟨rfl, rfl, rfl, rfl, rfl, rfl, rfl⟩, ?store⟩
  case pou => exact ⟨rfl, rfl, rfl, rfl, rfl, rfl, rfl, rfl, rfl, rfl, rfl, rfl, rfl, rfl⟩
  case bcu =>
    refine ⟨rfl, rfl, rfl, rfl, rfl, rfl, rfl, rfl, rfl, rfl, rfl, rfl, rfl, rfl, fun p => ?_⟩
    cases p <;> exact resetBand_eq _
  case leaves => intro l; cases l <;> exact ⟨rfl, rfl, rfl, rfl, rfl, rfl, rfl, rfl⟩
  case sides => intro x; cases x <;> exact ⟨rfl, rfl, rfl, rfl⟩
  case vru => exact ⟨rfl, rfl, rfl, rfl, rfl, rfl, rfl, rfl, rfl, rfl, rfl⟩
  case store =>
    intro hop
    have hnv : (s.fullReset cut).nv = s.nv.asStored := congrArg Nv.asStored (nvAtReset_idle hop cut)
    rw [hnv]
    exact s.nv.asStored_keeps

end Sys2Proof.Machine

/-! SUPPORT. A request that is served: the state its owner meets, and the answer that the port then holds (R204, R206, R207). -/

namespace Sys2Proof.Machine

/-- The state as the owner of a served request meets it: zeros were clocked out beside the frame, and a response that was waiting has
been discarded (R204, R206). -/
def State.served (s : State) : State := (clockZeros s).asTaken

@[simp] theorem State.served_nv (s : State) : s.served.nv = s.nv := rfl
@[simp] theorem State.served_lrs (s : State) : s.served.lrs = s.lrs := rfl
@[simp] theorem State.served_pou (s : State) : s.served.pou = s.pou := rfl
@[simp] theorem State.served_aut (s : State) : s.served.aut = s.aut := rfl
@[simp] theorem State.served_ssu (s : State) : s.served.ssu = s.ssu := rfl
@[simp] theorem State.served_bcu (s : State) : s.served.bcu = s.bcu := rfl
@[simp] theorem State.served_vru (s : State) : s.served.vru = s.vru := rfl
@[simp] theorem State.served_nvc (s : State) : s.served.nvc = s.nvc := rfl
@[simp] theorem State.served_ctl (s : State) : s.served.ctl = s.ctl := rfl
@[simp] theorem State.served_cfg (s : State) : s.served.cfg = s.cfg := rfl

theorem served_keeps (s : State) : Keeps [.port] s s.served :=
  (clockZeros_keeps s).trans (onCmp_keeps_causes _ ⟨rfl, rfl, rfl⟩)

/-- No response waits in a state that differs from the one an owner meets in other blocks than the port (R206). -/
theorem Keeps.port_empty {l : List Block} {s u : State} (h : Keeps l s.served u) (hl : Block.port ∉ l) :
    u.cmp.waiting = none ∧ u.cmp.readPos = 0 ∧ u.cmp.rdy = false := by
  have k : u.cmp.lessCauses = s.served.cmp.lessCauses := h .port hl
  exact ⟨congrArg Cmp.waiting k, congrArg Cmp.readPos k, congrArg Cmp.rdy k⟩

theorem kickTransmit_cmp (s : State) : (kickTransmit s).cmp = s.cmp := by
  unfold kickTransmit; split <;> rfl

/-- The mode serves requests exactly where it is neither START nor WAKING (R194). -/
theorem refusesRequests_eq_false {m : Mode} (h : m ≠ .start) (h' : m ≠ .waking) : m.refusesRequests = false := by
  cases m <;> simp_all [Mode.refusesRequests]

/-- A served request: the port holds its owner's answer, and beside the port and the transmitter the state is the one the owner leaves
(R206). -/
theorem request_served {l : List Block} {owner : State → Owned} {a : Answer} {s u : State} (hs : s.servesRequests) (code : Byte)
    (ho : owner s.served = (a, u)) (hk : Keeps l s.served u) (hl : Block.port ∉ l := by decide) :
    ∃ t : State, request code false owner s = .next t ∧ Keeps [.port, .transmitter] u t ∧
      Answered t code a.status a.reason a.items := by
  obtain ⟨hfree, hstart, hwaking⟩ := hs
  have htake : takeRequest code false owner (clockZeros s) =
      u.onCmp (fun p => { p with inProgress := some { code := code, answer := a, timer := 2 } }) := by
    rw [takeRequest_served (s := clockZeros s) hfree (.inl (refusesRequests_eq_false hstart hwaking))]
    change (owner s.served).2.onCmp (fun p =>
      { p with inProgress := some { code := code, answer := (owner s.served).1, timer := 2 } }) = _
    rw [ho]
  refine ⟨kickTransmit (takeRequest code false owner (clockZeros s)), rfl, ?_, ?_⟩
  · rw [htake]
    exact .after (kickTransmit_keeps _) ((onCmp_keeps_causes u ⟨rfl, rfl, rfl⟩).mono)
  · obtain ⟨hwait, hpos, hrdy⟩ := hk.port_empty hl
    unfold Answered
    rw [kickTransmit_cmp, htake]
    exact ⟨rfl, hwait, hpos, hrdy⟩

/-- A served request answered DONE (R206, R207). -/
theorem request_done {l : List Block} {owner : State → Owned} {items : List Byte} {s u : State} (hs : s.servesRequests)
    (code : Byte) (ho : owner s.served = doneWith items u) (hk : Keeps l s.served u) (hl : Block.port ∉ l := by decide) :
    ∃ t : State, request code false owner s = .next t ∧ Keeps [.port, .transmitter] u t ∧ Done t code items :=
  request_served hs code ho hk hl

/-- A served request refused after a change of its owner's (R207). -/
theorem request_refused_after {l : List Block} {owner : State → Owned} {why : Reason} {s u : State} (hs : s.servesRequests)
    (code : Byte) (ho : owner s.served = refuse why u) (hw : why ≠ .busy) (hk : Keeps l s.served u)
    (hl : Block.port ∉ l := by decide) :
    ∃ t : State, request code false owner s = .next t ∧ Keeps [.port, .transmitter] u t ∧
      Answered t code .refused why [] := by
  obtain ⟨t, ht, hkeep, hans⟩ := request_served hs code ho hk hl
  exact ⟨t, ht, hkeep, by simpa [answerRefused, hw] using hans⟩

theorem Keeps.of_served {s t : State} (h : Keeps [.port, .transmitter] s.served t) : Keeps [.port, .transmitter] s t :=
  .trans ((served_keeps s).mono) h

/-- A served request answered DONE by an owner that changes nothing. -/
theorem request_reports {owner : State → Owned} {items : List Byte} {s : State} (hs : s.servesRequests) (code : Byte)
    (ho : owner s.served = doneWith items s.served) :
    ∃ t : State, request code false owner s = .next t ∧ Keeps [.port, .transmitter] s t ∧ Done t code items := by
  obtain ⟨t, ht, hk, hd⟩ := request_done hs code ho (Keeps.refl [] _)
  exact ⟨t, ht, hk.of_served, hd⟩

/-- A served request refused with nothing changed. -/
theorem request_refused {owner : State → Owned} {why : Reason} {s : State} (hs : s.servesRequests) (code : Byte)
    (ho : owner s.served = refuse why s.served) (hw : why ≠ .busy := by decide) :
    ∃ t : State, request code false owner s = .next t ∧ Keeps [.port, .transmitter] s t ∧
      Answered t code .refused why [] := by
  obtain ⟨t, ht, hk, ha⟩ := request_refused_after hs code ho hw (Keeps.refl [] _)
  exact ⟨t, ht, hk.of_served, ha⟩

/-- A served request that its owner answers BUSY (R207). -/
theorem request_answered_busy {owner : State → Owned} {s : State} (hs : s.servesRequests) (code : Byte)
    (ho : owner s.served = refuse .busy s.served) :
    ∃ t : State, request code false owner s = .next t ∧ Keeps [.port, .transmitter] s t ∧
      Answered t code .busy .busy [] := by
  obtain ⟨t, ht, hk, ha⟩ := request_served hs code ho (Keeps.refl [] _)
  exact ⟨t, ht, hk.of_served, ha⟩

/-! ## The lookup requests (R2, R8, R12, R20, R24, R59, R74, R210) -/

theorem readOf_free {x : Table} {s : State} (h : s.underOperation x = false) (owner : State → Owned) :
    readOf x owner s = owner s := by
  simp [readOf, h]

theorem readOf_busy {x : Table} {s : State} (h : s.underOperation x = true) (owner : State → Owned) :
    readOf x owner s = refuse .busy s := by
  simp [readOf, h]

theorem readSegment_stored {s : State} {i : Nat} {g : Segment} (h : s.nv.segments[i]? = some g) :
    readSegment i s = doneWith (s.segmentItems g) s := by
  simp [readSegment, h]

theorem readSegment_none {s : State} {i : Nat} (h : s.nv.segments.length ≤ i) : readSegment i s = refuse .range s := by
  simp [readSegment, List.getElem?_eq_none h]

theorem readRestriction_held {s : State} {n : Nat} {r : Restriction} (h : s.lrs.restrictions[n]? = some r) :
    readRestriction n s = doneWith (s.restrictionItems r) s := by
  simp [readRestriction, h]

theorem readRestriction_none {s : State} {n : Nat} (h : s.lrs.restrictions.length ≤ n) :
    readRestriction n s = refuse .range s := by
  simp [readRestriction, List.getElem?_eq_none h]

theorem readAuthority_held {s : State} {n : Nat} {r : Authority} (h : s.aut.chain[n]? = some r) :
    readAuthority n s = doneWith (s.authorityItems r) s := by
  simp [readAuthority, h]

theorem readAuthority_none {s : State} {n : Nat} (h : s.aut.chain.length ≤ n) : readAuthority n s = refuse .range s := by
  simp [readAuthority, List.getElem?_eq_none h]

/-- The place of the first element that satisfies `f` is the length of what stands before it. -/
theorem placeOf_append_cons {α : Type} {f : α → Bool} {x : α} (hx : f x = true) (post : List α) :
    ∀ pre : List α, (∀ y ∈ pre, f y = false) → placeOf f (pre ++ x :: post) = pre.length
  | [], _ => by simp [placeOf, hx]
  | y :: pre, h => by
    have ih := placeOf_append_cons hx post pre (fun z hz => h z (List.mem_cons_of_mem _ hz))
    simp [placeOf, h y (List.mem_cons_self ..), ih]

/-- FIND_STOP finds the first record with the number, and its place (R12). -/
theorem findStop_found {s : State} {n : Nat} {pre post : List StopRec} {p : StopRec} (hs : s.nv.stops = pre ++ p :: post)
    (hp : p.number = n) (hpre : ∀ q ∈ pre, q.number ≠ n) : findStop n s = doneWith (s.stopItems p pre.length) s := by
  have hfind : s.nv.stops.find? (fun q => q.number = n) = some p := by
    rw [hs, List.find?_append, List.find?_eq_none.mpr (by simpa using hpre)]
    simp [hp]
  have hplace : placeOf (fun q : StopRec => decide (q.number = n)) s.nv.stops = pre.length := by
    rw [hs]
    exact placeOf_append_cons (by simpa using hp) post pre (by simpa using hpre)
  simp [findStop, hfind, hplace]

theorem findStop_none {s : State} {n : Nat} (h : ∀ q ∈ s.nv.stops, q.number ≠ n) : findStop n s = refuse .unknownId s := by
  have hfind : s.nv.stops.find? (fun q => q.number = n) = none := List.find?_eq_none.mpr (by simpa using h)
  simp [findStop, hfind]

/-- READ_SEGMENT shows a record with its end exactly in a CLOSED table, every other field as stored (R3, R8). -/
theorem shownSegment_eq (s : State) (g : Segment) : s.shownSegment g =
    { g with endC := if s.nv.profileT.state = .closed then g.endC else none } := by
  unfold State.shownSegment
  split
  · next h => rw [if_pos (show s.nv.profileT.state = .closed from h)]
  · next h => rw [if_neg (show ¬ s.nv.profileT.state = .closed from h)]

/-- Settles O56: a served lookup reports what its owner reads, or is refused. -/
theorem lookupsReadTheRecords : Obligations.LookupsReadTheRecords := by
  intro s hs
  refine ⟨fun hp => ⟨?at_, ?seg, ?noSeg⟩, fun hp => ⟨?atBusy, ?segBusy⟩, fun n => ⟨?stop, ?noStop, ?stopBusy⟩,
    fun n => ⟨?restr, ?noRestr, ?auth, ?noAuth⟩, ?car, ?carBusy, ?settings⟩
  case at_ => exact fun c => request_reports hs _ (readOf_free (s := s.served) hp _)
  case seg =>
    intro i g hg
    have h := (readOf_free (s := s.served) hp (readSegment i.toNat)).trans (readSegment_stored hg)
    have hi : s.served.segmentItems g =
        ({ g with endC := if s.nv.profileT.state = .closed then g.endC else none } : Segment).image ++
          halfBytes s.nv.segments.length ++ [s.nv.profileT.state.code] := by
      rw [State.segmentItems, shownSegment_eq]; rfl
    exact request_reports hs _ (hi ▸ h)
  case noSeg => exact fun i hi => request_refused hs _ ((readOf_free (s := s.served) hp _).trans (readSegment_none hi))
  case atBusy => exact fun c => request_answered_busy hs _ (readOf_busy (s := s.served) hp _)
  case segBusy => exact fun i => request_answered_busy hs _ (readOf_busy (s := s.served) hp _)
  case stop =>
    exact fun hf pre post p h1 h2 h3 => request_reports hs _ ((readOf_free (s := s.served) hf _).trans (findStop_found h1 h2 h3))
  case noStop => exact fun hf h => request_refused hs _ ((readOf_free (s := s.served) hf _).trans (findStop_none h))
  case stopBusy => exact fun hb => request_answered_busy hs _ (readOf_busy (s := s.served) hb _)
  case restr => exact fun r hr => request_reports hs _ (readRestriction_held hr)
  case noRestr => exact fun h => request_refused hs _ (readRestriction_none h)
  case auth => exact fun r hr => request_reports hs _ (readAuthority_held hr)
  case noAuth => exact fun h => request_refused hs _ (readAuthority_none h)
  case car => exact fun hf => request_reports hs _ (readOf_free (s := s.served) hf _)
  case carBusy => exact fun hb => request_answered_busy hs _ (readOf_busy (s := s.served) hb _)
  case settings => exact request_reports hs _ rfl

end Sys2Proof.Machine

/-! SUPPORT. What an evaluation of the BCU, a settling of the doors and a recomputation of the SSU preserve, proved once: a property of the
state that the few updates they are made of preserve, they preserve. -/

namespace Sys2Proof.Machine

/-- The causes an evaluation of the BCU may latch (R104, R116, R147). -/
def evalCauses : List Cause := [.doorEvent, .brakeFault, .testDone]

/-- The causes a recomputation of the SSU may latch besides (R92). -/
def tripCauses : List Cause := [.trip, .intervene, .advise] ++ evalCauses

/-- A property that each update an evaluation of the BCU is made of preserves (R100, R47, R138, R147). -/
structure EvalStable (P : State → Prop) : Prop where
  bcu     : ∀ (f : Bcu → Bcu) (s : State), P s → P (s.onBcu f)
  latch   : ∀ (c : Cause) (s : State), c ∈ evalCauses → P s → P (latch c s)
  refresh : ∀ s : State, P s → P (s.onDcu Dcu.refresh)
  relock  : ∀ s : State, P s → P (s.onDcu (fun d => d.mapLeaves LeafRec.relock))
  zero    : ∀ s : State, P s → P (s.onPou Pou.zeroRollback)

/-- A property that each update a recomputation of the SSU is made of preserves (R76, R92 to R95). -/
structure TripStable (P : State → Prop) : Prop extends EvalStable P where
  ssu       : ∀ (f : Ssu → Ssu) (s : State), P s → P (s.onSsu f)
  latchTrip : ∀ (c : Cause) (s : State), c ∈ tripCauses → P s → P (Machine.latch c s)
  withdraw  : ∀ (lead : Nat) (s : State), P s →
    P (s.onDcu (fun d => (d.withdrawSide .a lead).withdrawSide .b lead))
  burst     : ∀ s : State, P s → P (s.onVru Vru.startBurst)

section
variable {P : State → Prop} {s : State}

/-! ## Evaluations -/

theorem EvalStable.refreshDoors (h : EvalStable P) (hs : P s) : P (refreshDoors s) := by
  have hd := h.refresh s hs
  unfold Machine.refreshDoors latchIf
  split
  · exact h.latch _ _ (by decide) hd
  · exact hd

theorem EvalStable.handHolding (h : EvalStable P) (b : Bool) (hs : P s) : P (handHolding b s) := by
  unfold Machine.handHolding
  split
  · exact h.refreshDoors (h.relock s hs)
  · split
    · exact h.zero s hs
    · exact hs

theorem EvalStable.evalPass (h : EvalStable P) (hs : P s) : P (evalPass s) := h.handHolding _ (h.bcu _ s hs)

theorem EvalStable.evalOnce (h : EvalStable P) (hs : P s) : P (evalOnce s) := by
  unfold Machine.evalOnce
  dsimp only
  split
  · exact h.evalPass hs
  · exact h.evalPass (h.evalPass hs)

theorem EvalStable.endStep (h : EvalStable P) (n : Nat) (o : TestOutcome) (r : TestReason) (st : TestState) (hs : P s) :
    P (endStep n o r st s) :=
  h.latch _ _ (by decide) (h.bcu _ s hs)

theorem EvalStable.setWbFault (h : EvalStable P) (hs : P s) : P (setWbFault s) := h.latch _ _ (by decide) (h.bcu _ s hs)

theorem EvalStable.failStep (h : EvalStable P) (n : Nat) (r : TestReason) (hs : P s) : P (failStep n r s) :=
  h.endStep _ _ _ _ (h.bcu _ s hs)

theorem EvalStable.abortTest (h : EvalStable P) (r : TestReason) (hs : P s) : P (abortTest r s) := by
  unfold Machine.abortTest
  split
  · exact hs
  · exact h.endStep _ _ _ _ (h.bcu _ s hs)

theorem EvalStable.progress1 (h : EvalStable P) (hs : P s) : P (progress1 s) := by
  unfold Machine.progress1
  split
  · exact h.endStep _ _ _ _ hs
  · exact hs

theorem EvalStable.progressCycle (h : EvalStable P) (n : Nat) (p : Band) (st : TestState) (hs : P s) :
    P (progressCycle n p st s) := by
  unfold Machine.progressCycle
  dsimp only
  repeat' split
  · exact h.failStep _ _ hs
  · exact h.failStep _ _ (h.setWbFault hs)
  · exact h.bcu _ s hs
  · exact h.endStep _ _ _ _ hs
  · exact hs

theorem EvalStable.progress4 (h : EvalStable P) (hs : P s) : P (progress4 s) := by
  unfold Machine.progress4
  repeat' split
  · exact h.failStep _ _ hs
  · exact h.failStep _ _ hs
  · exact h.bcu _ s hs
  · exact h.endStep _ _ _ _ (h.bcu _ s hs)
  · exact hs

theorem EvalStable.testProgress (h : EvalStable P) (hs : P s) : P (testProgress s) := by
  unfold Machine.testProgress
  split
  · exact h.progress1 hs
  · exact h.progressCycle _ _ _ hs
  · exact h.progressCycle _ _ _ hs
  · exact h.progress4 hs
  all_goals exact hs

theorem EvalStable.bcuEval (h : EvalStable P) (hs : P s) : P (bcuEval s) := h.evalOnce (h.testProgress (h.evalOnce hs))

theorem EvalStable.doorsSettled (h : EvalStable P) (hs : P s) : P (doorsSettled s) := by
  have hr := h.refreshDoors hs
  unfold Machine.doorsSettled
  dsimp only
  repeat' split
  · exact hr
  · exact h.bcuEval hr
  · exact h.bcuEval (h.abortTest _ hr)

/-! ## Recomputations -/

theorem TripStable.withdrawBoth (h : TripStable P) (hs : P s) : P (withdrawBoth s) := h.doorsSettled (h.withdraw _ s hs)

theorem TripStable.enterTrip (h : TripStable P) (c : TripCause) (hs : P s) : P (enterTrip c s) :=
  h.burst _ (h.withdrawBoth (h.bcuEval (h.bcu _ _ (h.abortTest _ (h.latchTrip _ _ (by decide) (h.ssu _ s hs))))))

theorem TripStable.addTripCauses (h : TripStable P) (hs : P s) : P (addTripCauses s) := by
  unfold Machine.addTripCauses
  dsimp only
  repeat' split
  · exact h.ssu _ s hs
  · exact h.ssu _ s hs
  · exact hs

/-- An entry into a state other than TRIP latches INTERVENE or ADVISE (R92). -/
theorem entryCause_mem {held next : SupState} {c : Cause} (h : entryCause held next = some c) : c ∈ tripCauses := by
  cases held <;> cases next <;> cases h <;> decide

theorem TripStable.setSupState (h : TripStable P) (st : SupState) (hs : P s) : P (setSupState st s) := by
  unfold Machine.setSupState
  split
  · exact h.ssu _ s hs
  · next c hc => exact h.latchTrip c _ (entryCause_mem hc) (h.ssu _ s hs)

theorem TripStable.recompute (h : TripStable P) (hs : P s) : P (recompute s) := by
  have hc : P (computeSpeed s) := h.ssu _ s hs
  unfold Machine.recompute superviseSpeed
  split
  · have ha := h.addTripCauses hc
    dsimp only
    split
    · exact ha
    · exact h.bcuEval ha
  · split
    · exact h.enterTrip _ hc
    · split
      · exact hc
      · exact h.bcuEval (h.setSupState _ hc)

end

/-! ## Properties of one block -/

/-- The rollback accumulator stays at 0 (R47). -/
theorem rollbackZero_stable : TripStable (fun s => s.pou.rollback = 0) where
  bcu _ _ h := h
  latch _ _ _ h := h
  refresh _ h := h
  relock _ h := h
  zero _ _ := rfl
  ssu _ _ h := h
  latchTrip _ _ _ h := h
  withdraw _ _ h := h
  burst _ h := h

theorem Cause.num_injective : Function.Injective Cause.num := by
  intro c d
  cases c <;> cases d <;> decide

/-- A cause that neither an evaluation nor a recomputation latches stands as it was (R208). -/
theorem cause_stable {c : Cause} (hc : c ∉ tripCauses) (b : Bool) : TripStable (fun s => s.cmp.causes.getLsbD c.num = b) := by
  have hl : ∀ (d : Cause) (s : State), d ∈ tripCauses → s.cmp.causes.getLsbD c.num = b →
      (latch d s).cmp.causes.getLsbD c.num = b := by
    intro d s hd h
    have hne : c.num ≠ d.num := fun k => hc (Cause.num_injective k ▸ hd)
    rw [latch_causes, BitVec.getLsbD_or, h, Cause.bit, BitVec.getLsbD_twoPow]
    simp [Ne.symm hne]
  exact {
    bcu := fun _ _ h => h
    latch := fun d s hd h => hl d s (List.mem_append_right _ hd) h
    refresh := fun _ h => h
    relock := fun _ h => h
    zero := fun _ h => h
    ssu := fun _ _ h => h
    latchTrip := hl
    withdraw := fun _ _ h => h
    burst := fun _ h => h }

end Sys2Proof.Machine

/-! Proofs about the crew's requests on the line: SET_SETTING, SET_POSITION, SELECT_DIRECTION and TRIP_RESET. -/

namespace Sys2Proof.Machine

/-! ## SET_SETTING (R22, R23) -/

theorem settingOf_eq_none {b : Byte} (h : b = 0#8 ∨ 4 < b.toNat) : settingOf b = none := by
  have hb : b.toNat = 0 ∨ 4 < b.toNat := h.imp_left (fun h => by simp [h])
  unfold settingOf
  split
  · omega
  · omega
  · omega
  · omega
  · rfl

theorem settingOf_isSome {b : Byte} (h0 : b ≠ 0#8) (h4 : b.toNat ≤ 4) : ∃ x, settingOf b = some x := by
  have hb : b.toNat ≠ 0 := fun h => h0 (BitVec.eq_of_toNat_eq h)
  have hcases : b.toNat = 1 ∨ b.toNat = 2 ∨ b.toNat = 3 ∨ b.toNat = 4 := by omega
  obtain h | h | h | h := hcases <;> simp [settingOf, h]

theorem setSetting_mode {s : State} (h : s.ctl.mode = .ready ∨ s.ctl.mode = .parked) (b : Byte) (v : Nat) :
    setSetting b v s = refuse .mode s := by
  obtain h | h := h <;> simp [setSetting, Mode.onTheMove, h]

theorem onTheMove_of {m : Mode} (h : m = .service ∨ m = .depot) : m.onTheMove = true := by
  obtain rfl | rfl := h <;> rfl

theorem setSetting_range {s : State} {b : Byte} (hm : s.ctl.mode.onTheMove = true) (hb : settingOf b = none) (v : Nat) :
    setSetting b v s = refuse .range s := by
  simp [setSetting, hm, hb]

theorem setSetting_held {s : State} {b : Byte} {x : Setting} (hm : s.ctl.mode.onTheMove = true) (hb : settingOf b = some x)
    (hc : s.channelsApplied = false) (v : Nat) : setSetting b v s = refuse .heldRequired s := by
  simp [setSetting, hm, hb, hc]

/-- The state with a setting set, before the silence is compared with a new link grace. -/
def State.withSetting (x : Setting) (v : Nat) (s : State) : State :=
  s.onLrs (fun l => { l with settings := l.settings.set x (x.clamp v) })

theorem setSetting_done {s : State} {b : Byte} {x : Setting} (hm : s.ctl.mode.onTheMove = true) (hb : settingOf b = some x)
    (hc : s.channelsApplied = true) (v : Nat) : setSetting b v s = doneWith (halfBytes (x.clamp v))
      (if x = .linkGrace then judgeLink (s.withSetting x v) else s.withSetting x v) := by
  simp [setSetting, hm, hb, hc, State.withSetting]

theorem channelsApplied_iff (s : State) : s.channelsApplied = true ↔
    s.bcu.pb1.state = .applied ∧ s.bcu.pb2.state = .applied ∧ s.bcu.wbDemand ≠ .off ∧ s.pou.standstill = true := by
  simp [State.channelsApplied, and_assoc]

theorem channelsApplied_eq_false {s : State} (h : s.bcu.pb1.state ≠ .applied ∨ s.bcu.pb2.state ≠ .applied ∨
    s.bcu.wbDemand = .off ∨ s.pou.standstill = false) : s.channelsApplied = false := by
  rw [← Bool.not_eq_true, channelsApplied_iff]
  rintro ⟨h1, h2, h3, h4⟩
  obtain h | h | h | h := h
  · exact h h1
  · exact h h2
  · exact h3 h
  · exact Bool.noConfusion (h.symm.trans h4)

/-- A SILENT link whose silence has reached the LOST limit becomes LOST (R165). -/
theorem judgeLink_lost {s : State} (h : s.vru.link = .silent) (hl : s.lostLimit ≤ s.vru.silence) :
    (judgeLink s).vru.link = .lost := by
  simp [judgeLink, h, hl, changeLink_link]

/-- A setting taken: answered with the value it takes, and set; a new link grace is compared with the silence at once (R22, R23). -/
theorem setSetting_taken {s : State} (hs : s.servesRequests) {b : Byte} {x : Setting} (hm : s.ctl.mode.onTheMove = true)
    (hb : settingOf b = some x) (hc : s.channelsApplied = true) (v : Half) :
    ∃ t : State, exec (.setSetting b v) s = .next t ∧ Done t 0x20#8 (halfBytes (x.clamp v.toNat)) ∧
      t.lrs.settings = s.lrs.settings.set x (x.clamp v.toNat) ∧
      (x = .linkGrace → s.vru.link = .silent →
        4000 + 1000 * x.clamp v.toNat + 1000 * s.vru.shadow ≤ s.vru.silence → t.vru.link = .lost) := by
  have hk : Keeps ([.lrs, .radio, .aut] ++ tripBlocks) s.served (setSetting b v.toNat s.served).2 := setSetting_keeps _ _ _
  rw [setSetting_done (s := s.served) hm hb hc] at hk
  obtain ⟨t, ht, hkt, hd⟩ := request_done hs 0x20#8 (setSetting_done (s := s.served) hm hb hc v.toNat) hk
  refine ⟨t, ht, hd, ?_, ?_⟩
  · rw [hkt.lrs]
    split
    · rw [(judgeLink_keeps _).lrs]; rfl
    · rfl
  · rintro rfl hlink hsil
    rw [hkt.link.1, if_pos rfl]
    exact judgeLink_lost hlink hsil

theorem clampTo_eq {lo hi : Nat} (h : lo ≤ hi) (v : Nat) : clampTo lo hi v = max lo (min hi v) := by
  unfold clampTo
  split
  · omega
  · split <;> omega

theorem clamp_openDwell (v : Nat) : Setting.openDwell.clamp v = max 3 (min 60 v) := clampTo_eq (by decide) v

theorem clamp_warnLead (v : Nat) : Setting.warnLead.clamp v = min 5 v :=
  (clampTo_eq (by decide) v).trans (Nat.zero_max _)

theorem clamp_linkGrace (v : Nat) : Setting.linkGrace.clamp v = min 30 v / 2 * 2 := by
  simp [Setting.clamp, clampTo_eq]

theorem clamp_wheelCirc (v : Nat) : Setting.wheelCirc.clamp v = max 15000 (min 40000 v) :=
  clampTo_eq (by decide) v

/-! ## SET_POSITION (R37) -/

theorem notParked_of {s : State} (hs : s.servesRequests) (h : s.ctl.mode ≠ .parked) : s.ctl.mode.notParked = true := by
  obtain ⟨-, h1, h2⟩ := hs
  cases hm : s.ctl.mode <;> simp_all [Mode.notParked]

theorem setPosition_mode {s : State} (h : s.ctl.mode = .parked) (c : Nat) : setPosition c s = refuse .mode s := by
  simp [setPosition, Mode.notParked, h]

theorem setPosition_moving {s : State} (hm : s.ctl.mode.notParked = true) (h : s.pou.standstill = false) (c : Nat) :
    setPosition c s = refuse .moving s := by
  simp [setPosition, hm, h]

theorem setPosition_conditions {s : State} (hm : s.ctl.mode.notParked = true) (h : s.pou.standstill = true)
    (hd : s.ctl.mode ≠ .depot) (hp : s.pou.posState = .known) (c : Nat) : setPosition c s = refuse .conditions s := by
  simp [setPosition, hm, h, hd, hp]

/-- SET_POSITION may place the car: not parked, at standstill, in DEPOT or with the position not KNOWN (R37, checks 1 to 3). -/
def State.mayPlace (s : State) : Prop :=
  s.ctl.mode.notParked = true ∧ s.pou.standstill = true ∧ (s.ctl.mode = .depot ∨ s.pou.posState ≠ .known)

theorem setPosition_range {s : State} {c : Nat} (h : s.mayPlace) (hr : s.offRange c = true) :
    setPosition c s = refuse .range s := by
  obtain ⟨hm, hst, hp⟩ := h
  have hc : ¬(s.ctl.mode ≠ .depot ∧ s.pou.posState = .known) := fun ⟨h1, h2⟩ => hp.elim h1 (fun h3 => h3 h2)
  simp [setPosition, hm, hst, hc, hr]

theorem setPosition_done {s : State} {c : Nat} (h : s.mayPlace) (hr : s.offRange c = false) :
    setPosition c s = doneWith (chainBytes c ++ halfBytes s.cfg.uSet) (s.onPou (Pou.setPosition c s.cfg.uSet)) := by
  obtain ⟨hm, hst, hp⟩ := h
  have hc : ¬(s.ctl.mode ≠ .depot ∧ s.pou.posState = .known) := fun ⟨h1, h2⟩ => hp.elim h1 (fun h3 => h3 h2)
  simp [setPosition, hm, hst, hc, hr]

theorem offRange_short {s : State} {c : Nat} (h : c < s.cfg.carLength) : s.offRange c = true := by simp [State.offRange, h]

theorem offRange_offLine {s : State} {c : Nat} (hc : s.tableState .profile = .closed)
    (h : s.onLine c = false ∨ s.onLine ((c : Int) - s.cfg.carLength) = false) : s.offRange c = true := by
  obtain h | h := h <;> simp [State.offRange, hc, h, lowEnd]

/-- A chainage of 24 bits is within the range of one (R37). -/
theorem offRange_onLine {s : State} {c : Chain} (hl : s.cfg.carLength ≤ c.toNat)
    (h : s.tableState .profile = .closed → s.onLine c.toNat = true ∧ s.onLine ((c.toNat : Int) - s.cfg.carLength) = true) :
    s.offRange c.toNat = false := by
  have hc : ¬ 16777215 < c.toNat := by have := c.isLt; omega
  have hl' : ¬ c.toNat < s.cfg.carLength := by omega
  by_cases hp : s.tableState .profile = .closed
  · obtain ⟨h1, h2⟩ := h hp
    simp [State.offRange, hc, hl', h1, h2, lowEnd]
  · simp [State.offRange, hc, hl', hp]

/-! ## SELECT_DIRECTION (R62) -/

theorem selectDirection_mode {s : State} (h : s.ctl.mode = .parked) (b : Byte) : selectDirection b s = refuse .mode s := by
  simp [selectDirection, Mode.notParked, h]

theorem selectDirection_range {s : State} {b : Byte} (hm : s.ctl.mode.notParked = true) (hb : directionOf b = none) :
    selectDirection b s = refuse .range s := by
  simp [selectDirection, hm, hb]

theorem selectDirection_moving {s : State} {b : Byte} {d : Direction} (hm : s.ctl.mode.notParked = true)
    (hb : directionOf b = some d) (hs : s.pou.standstill = false) : selectDirection b s = refuse .moving s := by
  simp [selectDirection, hm, hb, hs]

theorem selectDirection_notEmpty {s : State} {b : Byte} {d : Direction} (hm : s.ctl.mode.notParked = true)
    (hb : directionOf b = some d) (hs : s.pou.standstill = true) (hc : s.aut.chain ≠ []) :
    selectDirection b s = refuse .notEmpty s := by
  simp [selectDirection, hm, hb, hs, hc]

theorem selectDirection_done {s : State} {b : Byte} {d : Direction} (hm : s.ctl.mode.notParked = true)
    (hb : directionOf b = some d) (hs : s.pou.standstill = true) (hc : s.aut.chain = []) :
    selectDirection b s =
      doneWith [] (recompute ((s.onAut (fun a => { a with selected := d })).onPou Pou.zeroRollback)) := by
  simp [selectDirection, hm, hb, hs, hc]

/-! ## TRIP_RESET (R96) -/

theorem tripReset_moving {s : State} (h : s.pou.standstill = false) : tripReset s = refuse .moving s := by
  simp [tripReset, h]

theorem tripReset_outside {s : State} (h : s.pou.standstill = true) (ht : s.ssu.state ≠ .trip) :
    tripReset s = doneWith [s.ssu.state.code] s := by
  simp [tripReset, h, ht]

theorem tripReset_done {s : State} (h : s.pou.standstill = true) (ht : s.ssu.state = .trip) :
    tripReset s = doneWith [(leaveTrip s).ssu.state.code] (leaveTrip s) := by
  simp [tripReset, h, ht]

/-- The state a car at rest indicates: CLEAR where v_perm leaves the warning margin, else ADVISE (R90, R96). -/
theorem afterTrip_eq (s : State) : s.afterTrip = if s.cfg.warnMargin ≤ s.ssu.vPerm then .clear else .advise := by
  unfold State.afterTrip indicated
  split
  · rw [if_pos (by omega)]
  · rw [if_pos (Nat.zero_le _), if_neg (by omega)]

theorem leaveTrip_ssu (s : State) : (leaveTrip s).ssu = { s.ssu with trip := none, state := s.afterTrip } := by
  unfold leaveTrip
  rw [(bcuEval_keeps _).ssu, setSupState_ssu]
  rfl

/-- An evaluation sets the EB demand by the supervision state it meets (R102). -/
theorem evalPass_ebDemand (s : State) : (evalPass s).bcu.ebDemand =
    (s.ssu.state = .trip || (s.ssu.state = .intervene && (s.engaged || s.bcu.ebAvail))) := by
  unfold evalPass
  rw [(handHolding_keeps _ _).bcu, State.onBcu_bcu, evaluate_ebDemand]
  rfl

/-- In CLEAR and ADVISE the EB is not demanded (R102). -/
theorem bcuEval_ebDemand_off {s : State} (h : s.ssu.state = .clear ∨ s.ssu.state = .advise) :
    (bcuEval s).bcu.ebDemand = false := by
  have hp : ∀ u : State, u.ssu.state = s.ssu.state → (evalPass u).bcu.ebDemand = false := by
    intro u hu
    rw [evalPass_ebDemand, hu]
    obtain h | h := h <;> simp [h]
  have hu : (testProgress (evalOnce s)).ssu.state = s.ssu.state := by
    rw [(testProgress_keeps _).ssu, (evalOnce_keeps _).ssu]
  rw [bcuEval, evalOnce]
  split
  · exact hp _ hu
  · exact hp _ (by rw [(evalPass_keeps _).ssu, hu])

theorem leaveTrip_ebDemand (s : State) : (leaveTrip s).bcu.ebDemand = false := by
  refine bcuEval_ebDemand_off ?_
  rw [setSupState_ssu]
  change s.afterTrip = _ ∨ s.afterTrip = _
  rw [afterTrip_eq]
  split
  · exact .inl rfl
  · exact .inr rfl

/-- Settles O57, request by request, each with its refusals in order and then what it does where it is taken. -/
theorem crewRequestsOnTheLine : Obligations.CrewRequestsOnTheLine := by
  refine ⟨fun x v s hs => ⟨fun hm => ?setMode, fun hm => ⟨fun hx => ?setRange, fun h0 h4 hc => ?setHeld,
      fun h1 h2 h3 h4 => ?set⟩⟩,
    fun c s hs => ⟨fun hm => ?posMode, fun hm => ⟨fun hst => ?posMoving, fun hst => ⟨fun hd hp => ?posKnown,
      fun hd => ⟨fun hc => ?posShort, fun hc hl => ?posOffLine, fun hc hl => ?pos⟩⟩⟩⟩,
    fun b s hs => ⟨fun hm => ?dirMode, fun hm => ⟨fun hb => ?dirRange, fun d hb => ⟨fun hst => ?dirMoving,
      fun hst hc => ?dirNotEmpty, fun hst hc => ?dir⟩⟩⟩,
    fun s hs => ⟨fun hst => ?resetMoving, fun hst ht => ?resetOutside, fun hst ht => ?reset⟩⟩
  case setMode => exact request_refused hs _ (setSetting_mode (s := s.served) hm x v.toNat)
  case setRange =>
    exact request_refused hs _ (setSetting_range (s := s.served) (onTheMove_of hm) (settingOf_eq_none hx) v.toNat)
  case setHeld =>
    obtain ⟨y, hy⟩ := settingOf_isSome h0 h4
    exact request_refused hs _ (setSetting_held (s := s.served) (onTheMove_of hm) hy (channelsApplied_eq_false hc) v.toNat)
  case set =>
    have hc : s.channelsApplied = true := (channelsApplied_iff s).mpr ⟨h1, h2, h3, h4⟩
    have taken {y : Setting} (hy : settingOf x = some y) := setSetting_taken hs (onTheMove_of hm) hy hc v
    refine ⟨?_, ?_, ?_, ?_⟩
    · rintro rfl
      obtain ⟨t, ht, hd, hset, -⟩ := taken rfl
      exact ⟨t, _, ht, clamp_openDwell _, hd, hset⟩
    · rintro rfl
      obtain ⟨t, ht, hd, hset, -⟩ := taken rfl
      exact ⟨t, _, ht, clamp_warnLead _, hd, hset⟩
    · rintro rfl
      obtain ⟨t, ht, hd, hset, hlost⟩ := taken rfl
      exact ⟨t, _, ht, clamp_linkGrace _, hd, hset, hlost rfl⟩
    · rintro rfl
      obtain ⟨t, ht, hd, hset, -⟩ := taken rfl
      exact ⟨t, _, ht, clamp_wheelCirc _, hd, hset⟩
  case posMode => exact request_refused hs _ (setPosition_mode (s := s.served) hm c.toNat)
  case posMoving => exact request_refused hs _ (setPosition_moving (s := s.served) (notParked_of hs hm) hst c.toNat)
  case posKnown => exact request_refused hs _ (setPosition_conditions (s := s.served) (notParked_of hs hm) hst hd hp c.toNat)
  case posShort =>
    exact request_refused hs _ (setPosition_range (s := s.served) ⟨notParked_of hs hm, hst, hd⟩ (offRange_short hc))
  case posOffLine =>
    exact request_refused hs _ (setPosition_range (s := s.served) ⟨notParked_of hs hm, hst, hd⟩ (offRange_offLine hc hl))
  case pos =>
    have ho := setPosition_done (s := s.served) ⟨notParked_of hs hm, hst, hd⟩ (offRange_onLine hc hl)
    obtain ⟨t, ht, hk, hdone⟩ := request_done hs 0x21#8 ho (onPou_keeps _ _)
    have hp : t.pou = Pou.setPosition c.toNat s.cfg.uSet s.pou := hk.pou
    refine ⟨t, ht, exec_keeps (c := .setPosition c) ht, hdone, ?_⟩
    rw [hp]
    exact ⟨rfl, rfl, rfl, rfl, rfl, rfl, rfl, rfl, rfl, rfl⟩
  case dirMode => exact request_refused hs _ (selectDirection_mode (s := s.served) hm b)
  case dirRange => exact request_refused hs _ (selectDirection_range (s := s.served) (notParked_of hs hm) hb)
  case dirMoving => exact request_refused hs _ (selectDirection_moving (s := s.served) (notParked_of hs hm) hb hst)
  case dirNotEmpty => exact request_refused hs _ (selectDirection_notEmpty (s := s.served) (notParked_of hs hm) hb hst hc)
  case dir =>
    have ho := selectDirection_done (s := s.served) (notParked_of hs hm) hb hst hc
    have hk : Keeps (.aut :: tripBlocks) s.served (selectDirection b s.served).2 := selectDirection_keeps _ _
    rw [ho] at hk
    obtain ⟨t, ht, hkt, hdone⟩ := request_done hs 0x22#8 ho hk
    refine ⟨t, ht, hdone, ?_, ?_⟩
    · rw [hkt.aut, (recompute_keeps _).aut]
      exact congrArg (fun x => ({ chain := x, selected := d } : Aut)) hc
    · rw [hkt.pou]
      exact rollbackZero_stable.recompute rfl
  case resetMoving => exact request_refused hs _ (tripReset_moving (s := s.served) hst)
  case resetOutside => exact request_reports hs _ (tripReset_outside (s := s.served) hst ht)
  case reset =>
    obtain ⟨t, hex, hk, hdone⟩ := request_done hs 0x25#8 (tripReset_done (s := s.served) hst ht) (leaveTrip_keeps _)
    refine ⟨t, hex, ?_, ?_, ?_, ?_⟩
    · rw [hk.ssu]; exact hdone
    · rw [hk.ssu, leaveTrip_ssu]
    · rw [hk.ssu, leaveTrip_ssu]; exact afterTrip_eq s
    · rw [hk.bcu]; exact leaveTrip_ebDemand _

end Sys2Proof.Machine

/-! Proofs about the depot requests past their gate. -/

namespace Sys2Proof.Machine

/-! ## The gate (R173) -/

/-- The state as the owner of a depot request with the key meets it. -/
def State.inDepot (s : State) : State := s.served.onInp (fun i => { i with key := true })

theorem servesRequests_of_depotOpen {s : State} (h : s.depotOpen) : s.servesRequests := by
  obtain ⟨hfree, -, hmode, -, -⟩ := h
  exact ⟨hfree, by simp [hmode], by simp [hmode]⟩

/-- With the five checks passed a depot request reaches its owner (R173). -/
theorem depotGate_open {s : State} (h : s.depotOpen) (owner : State → Owned) :
    depotGate true owner s.served = owner s.inDepot := by
  obtain ⟨-, hrun, hmode, hsup, hop⟩ := h
  simp [depotGate, withKey, State.inDepot, hrun, hmode, hsup, hop]

theorem inDepot_keeps (s : State) : Keeps [.inp] s.served s.inDepot := onInp_keeps _ _

section
variable {owner : State → Owned} {s u : State}

/-- A depot request answered DONE by an owner that leaves the port alone. -/
theorem depot_done {l : List Block} {items : List Byte} (h : s.depotOpen) (code : Byte)
    (ho : owner s.inDepot = doneWith items u) (hk : Keeps l s.inDepot u) (hl : Block.port ∉ l := by decide) :
    ∃ t : State, request code false (depotGate true owner) s = .next t ∧ Keeps [.port, .transmitter] u t ∧
      Done t code items := by
  have hk' : Keeps (.inp :: l) s.served u :=
    ((inDepot_keeps s).mono (by simp)).trans (hk.mono (fun b hb => List.mem_cons_of_mem _ hb))
  exact request_done (servesRequests_of_depotOpen h) code ((depotGate_open h owner).trans ho) hk'
    (by simpa using hl)

/-- A depot request refused by an owner that leaves the port alone. -/
theorem depot_refused_after {l : List Block} {why : Reason} (h : s.depotOpen) (code : Byte)
    (ho : owner s.inDepot = refuse why u) (hk : Keeps l s.inDepot u) (hw : why ≠ .busy := by decide)
    (hl : Block.port ∉ l := by decide) :
    ∃ t : State, request code false (depotGate true owner) s = .next t ∧ Keeps [.port, .transmitter] u t ∧
      Answered t code .refused why [] := by
  have hk' : Keeps (.inp :: l) s.served u :=
    ((inDepot_keeps s).mono (by simp)).trans (hk.mono (fun b hb => List.mem_cons_of_mem _ hb))
  exact request_refused_after (servesRequests_of_depotOpen h) code ((depotGate_open h owner).trans ho) hw hk'
    (by simpa using hl)

theorem Keeps.of_inDepot {l : List Block} {t : State} (h : Keeps l s.inDepot t) (hp : Block.port ∈ l := by decide)
    (hi : Block.inp ∈ l := by decide) : Keeps l s t :=
  ((served_keeps s).mono (by simpa using hp)).trans (((inDepot_keeps s).mono (by simpa using hi)).trans h)

/-- A depot request answered DONE by an owner that changes nothing. -/
theorem depot_reports {items : List Byte} (h : s.depotOpen) (code : Byte)
    (ho : owner s.inDepot = doneWith items s.inDepot) :
    ∃ t : State, request code false (depotGate true owner) s = .next t ∧ Keeps [.port, .inp, .transmitter] s t ∧
      Done t code items := by
  obtain ⟨t, ht, hk, hd⟩ := depot_done h code ho (Keeps.refl [] _)
  exact ⟨t, ht, (hk.mono).of_inDepot, hd⟩

/-- A depot request refused with nothing changed. -/
theorem depot_refused {why : Reason} (h : s.depotOpen) (code : Byte) (ho : owner s.inDepot = refuse why s.inDepot)
    (hw : why ≠ .busy := by decide) :
    ∃ t : State, request code false (depotGate true owner) s = .next t ∧ Keeps [.port, .inp, .transmitter] s t ∧
      Answered t code .refused why [] := by
  obtain ⟨t, ht, hk, ha⟩ := depot_refused_after h code ho (Keeps.refl [] _) hw
  exact ⟨t, ht, (hk.mono).of_inDepot, ha⟩

/-- A depot request answered DONE by an owner that changes the batch alone. -/
theorem depot_batched {items : List Byte} {f : Batch → Batch} (h : s.depotOpen) (code : Byte)
    (ho : owner s.inDepot = doneWith items (onBatch f s.inDepot)) :
    ∃ t : State, request code false (depotGate true owner) s = .next t ∧ Keeps [.port, .inp, .nvc, .transmitter] s t ∧
      Done t code items ∧ t.nvc.batch = f s.nvc.batch := by
  obtain ⟨t, ht, hk, hd⟩ := depot_done h code ho (onBatch_keeps f _)
  have hs : Keeps [.port, .inp, .nvc, .transmitter] s.inDepot t := .trans ((onBatch_keeps f _).mono) hk.mono
  exact ⟨t, ht, hs.of_inDepot, hd, congrArg Nvc.batch hk.nvc⟩

/-- A depot request refused with the batch ABORTED (R178, R179). -/
theorem depot_aborted {why : Reason} (h : s.depotOpen) (code : Byte)
    (ho : owner s.inDepot = refuse why (abortBatch s.inDepot)) (hw : why ≠ .busy := by decide) :
    ∃ t : State, request code false (depotGate true owner) s = .next t ∧ Keeps [.port, .inp, .nvc, .transmitter] s t ∧
      Answered t code .refused why [] ∧ t.nvc.batch = { s.nvc.batch with state := .aborted } := by
  obtain ⟨t, ht, hk, ha⟩ := depot_refused_after h code ho (onBatch_keeps _ _) hw
  have hs : Keeps [.port, .inp, .nvc, .transmitter] s.inDepot t := .trans ((onBatch_keeps _ _).mono) hk.mono
  exact ⟨t, ht, hs.of_inDepot, ha, congrArg Nvc.batch hk.nvc⟩

end

/-! ## Operations that start (R174) -/

/-- The NVC with an operation in flight from its start. -/
def Nvc.begin (op : NvOp) (n : Nvc) : Nvc :=
  { n with op := some { op := op, limit := op.limit n.batch.declared, elapsed := 0 } }

theorem startOp_nvc (op : NvOp) (s : State) : (startOp op s).nvc = s.nvc.begin op := by
  unfold startOp
  dsimp only
  split
  · split
    · exact (leaveClosed_keeps _ _).nvc
    · rfl
  · rfl

/-- An operation that changes records marks its table at the start; the others leave the store (R174). -/
theorem startOp_nv (op : NvOp) (s : State) : (startOp op s).nv = if op.marks then s.nv.mark op.table else s.nv := by
  unfold startOp
  dsimp only
  split
  · split
    · exact (leaveClosed_keeps _ _).nv
    · rfl
  · rfl

/-- A table leaving CLOSED empties the records that rest on it (R25, R58, R172). -/
theorem leaveClosed_emptied (x : Table) (s : State) : (leaveClosed x s).lrs.emptiedBy x := by
  cases x
  · simp only [leaveClosed, Lrs.emptiedBy]
    rw [(recompute_keeps _).lrs]
    exact ⟨rfl, rfl⟩
  · simp only [leaveClosed, Lrs.emptiedBy]
    rw [(recompute_keeps _).lrs, (latchIf_keeps _ _ _).lrs]
    rfl
  · trivial

theorem startOp_emptied {op : NvOp} {s : State} (hm : op.marks = true) (hc : s.tableState op.table = .closed) :
    (startOp op s).lrs.emptiedBy op.table := by
  simp only [startOp, hm, hc, if_true]
  exact leaveClosed_emptied _ _

theorem mark_records (x : Table) (nv : Nv) : (nv.mark x).records = nv.records := by cases x <;> rfl

theorem mark_info (x : Table) (nv : Nv) :
    (nv.mark x).info x = { state := .incomplete, check := none, lock := (nv.info x).lock, unwritten := none } := by
  cases x <;> rfl

/-- A depot request that starts an operation is answered DONE with the operation in flight; where it changes records, its table is marked
and, where that was CLOSED, the records that rest on it are emptied (R174). -/
theorem depot_starts {owner : State → Owned} {op : NvOp} {s u : State} (h : s.depotOpen) (code : Byte)
    (ho : owner s.inDepot = starts op u) (hk : Keeps [.nvc] s.inDepot u) :
    ∃ t : State, request code false (depotGate true owner) s = .next t ∧ Done t code [] ∧ t.nvc = u.nvc.begin op ∧
      t.nv = (if op.marks then s.nv.mark op.table else s.nv) ∧
      (op.marks = true → (s.nv.info op.table).state = .closed → t.lrs.emptiedBy op.table) := by
  have hko : Keeps ([.nv, .nvc, .lrs] ++ tripBlocks) s.inDepot (startOp op u) := .after (startOp_keeps op u) hk.mono
  obtain ⟨t, ht, hkt, hd⟩ := depot_done h code ho hko
  have hnv : u.nv = s.nv := hk.nv
  refine ⟨t, ht, hd, ?_, ?_, fun hm hc => ?_⟩
  · rw [hkt.nvc, startOp_nvc]
  · rw [hkt.nv, startOp_nv, hnv]
  · rw [hkt.lrs]
    exact startOp_emptied hm (by rw [State.tableState, hnv]; exact hc)

/-- The request starts an operation that marks its table, with the limit of R174. -/
theorem depot_starts_marked {owner : State → Owned} {op : NvOp} {s u : State} (h : s.depotOpen) (code : Byte)
    (ho : owner s.inDepot = starts op u) (hk : Keeps [.nvc] s.inDepot u) (hm : op.marks = true) :
    ∃ t : State, request code false (depotGate true owner) s = .next t ∧ Done t code [] ∧ t.nvc = u.nvc.begin op ∧
      t.nv.records = s.nv.records ∧ ((s.nv.info op.table).state = .closed → t.lrs.emptiedBy op.table) ∧
      t.nv.info op.table =
        { state := .incomplete, check := none, lock := (s.nv.info op.table).lock, unwritten := none } := by
  obtain ⟨t, ht, hd, hn, hnv, he⟩ := depot_starts h code ho hk
  rw [if_pos hm] at hnv
  exact ⟨t, ht, hd, hn, by rw [hnv, mark_records], he hm, by rw [hnv, mark_info]⟩

/-! ## What each owner decides -/

theorem batchNames_eq_false {s : State} {x : Table} (h : s.nvc.batch.state = .none ∨ s.nvc.batch.table ≠ some x) :
    s.batchNames x = false := by
  obtain h | h := h <;> simp [State.batchNames, h]

theorem batchNames_eq_true {s : State} {x : Table} (h : s.nvc.batch.state ≠ .none ∧ s.nvc.batch.table = some x) :
    s.batchNames x = true := by
  simp [State.batchNames, h.1, h.2]

theorem onTable_some {o : Option Table} {x : Table} (h : o = some x) (owner : Table → State → Owned) (s : State) :
    onTable o owner s = owner x s := by
  rw [h]; rfl

theorem onTable_none {o : Option Table} (h : o = none) (owner : Table → State → Owned) (s : State) :
    onTable o owner s = refuse .range s := by
  rw [h]; rfl

section
variable {s : State} {x : Table}

theorem eraseTable_starts (hl : (s.nv.info x).lock = false) (hb : s.batchNames x = false) :
    eraseTable x s = starts (.erase x) s := by
  simp [eraseTable, hl, hb]

theorem eraseTable_locked (hl : (s.nv.info x).lock = true) : eraseTable x s = refuse .locked s := by
  simp [eraseTable, hl]

theorem eraseTable_conditions (hl : (s.nv.info x).lock = false) (hb : s.batchNames x = true) :
    eraseTable x s = refuse .conditions s := by
  simp [eraseTable, hl, hb]

theorem unlockTable_starts (hl : (s.nv.info x).lock = true) (hb : s.batchNames x = false) :
    unlockTable x s = starts (.unlock x) s := by
  simp [unlockTable, hl, hb]

theorem unlockTable_conditions (h : (s.nv.info x).lock = false ∨ s.batchNames x = true) :
    unlockTable x s = refuse .conditions s := by
  obtain h | h := h <;> simp [unlockTable, h]

theorem lockTable_starts (hl : (s.nv.info x).lock = false) (hc : (s.nv.info x).state = .closed) :
    lockTable x s = starts (.lock x) s := by
  simp [lockTable, hl, State.tableState, hc]

theorem lockTable_locked (hl : (s.nv.info x).lock = true) : lockTable x s = doneWith [] s := by
  simp [lockTable, hl]

theorem lockTable_conditions (hl : (s.nv.info x).lock = false) (hc : (s.nv.info x).state ≠ .closed) :
    lockTable x s = refuse .conditions s := by
  simp [lockTable, hl, State.tableState, hc]

theorem loadable_iff (st : TableState) : st.loadable = true ↔ st = .empty ∨ st = .loading := by
  simp [TableState.loadable]

theorem loadable_of_mem {st : TableState} (h : st ∈ [TableState.empty, .loading]) : st.loadable = true :=
  (loadable_iff st).mpr (by simpa using h)

theorem loadable_eq_false {st : TableState} (h : st ∉ [TableState.empty, .loading]) : st.loadable = false := by
  rw [← Bool.not_eq_true, loadable_iff]
  simpa using h

theorem openBatch_range {n : Nat} (h : n = 0 ∨ 32 < n) : openBatch n x s = refuse .range s := by
  simp [openBatch, h]

theorem openBatch_aborted {n : Nat} (hn : ¬(n = 0 ∨ 32 < n)) (h : s.nvc.batch.state = .aborted) :
    openBatch n x s = refuse .aborted s := by
  simp [openBatch, hn, h]

theorem openBatch_opened {n : Nat} (hn : ¬(n = 0 ∨ 32 < n)) (h : s.nvc.batch.state = .opened) :
    openBatch n x s = refuse .conditions s := by
  simp [openBatch, hn, h]

theorem openBatch_conditions {n : Nat} (hn : ¬(n = 0 ∨ 32 < n)) (h : s.nvc.batch.state = .none)
    (hl : (s.tableState x).loadable = false) : openBatch n x s = refuse .conditions s := by
  simp [openBatch, hn, h, hl]

theorem openBatch_full {n : Nat} (hn : ¬(n = 0 ∨ 32 < n)) (h : s.nvc.batch.state = .none)
    (hl : (s.tableState x).loadable = true) (hf : tableCapacity x < s.nv.stored x + n) :
    openBatch n x s = refuse .full s := by
  simp [openBatch, hn, h, hl, hf]

theorem openBatch_done {n : Nat} (hn : ¬(n = 0 ∨ 32 < n)) (h : s.nvc.batch.state = .none)
    (hl : (s.tableState x).loadable = true) (hf : s.nv.stored x + n ≤ tableCapacity x) :
    openBatch n x s = doneWith [] (onBatch (fun _ =>
      { state := .opened, table := some x, declared := n, segments := [], stops := [] }) s) := by
  simp [openBatch, hn, h, hl, Nat.not_lt.mpr hf]

theorem closeTable_conditions {p : Byte} {e : Nat} (h : s.batchNames x = true ∨ (s.tableState x).loadable = false) :
    closeTable p e x s = refuse .conditions s := by
  obtain h | h := h <;> simp [closeTable, h]

theorem closeTable_stops {p : Byte} {e : Nat} (hb : s.batchNames .stops = false)
    (hl : (s.tableState .stops).loadable = true) : closeTable p e .stops s = starts (.close .stops 0) s := by
  simp [closeTable, hb, hl]

theorem closeTable_profile {e : Nat} (hb : s.batchNames .profile = false) (hl : (s.tableState .profile).loadable = true) :
    closeTable 1#8 e .profile s =
      if profileOk e s.nv.segments then starts (.close .profile e) s else refuse .badStructure s := by
  simp [closeTable, hb, hl, lineEndOf]

theorem closeTable_noEnd {p : Byte} {e : Nat} (hb : s.batchNames .profile = false)
    (hl : (s.tableState .profile).loadable = true) (hp : p ≠ 1#8) : closeTable p e .profile s = refuse .range s := by
  simp [closeTable, hb, hl, lineEndOf, hp]

end

/-- The capacity of a table loaded in batches (R3, R9, R177). -/
theorem tableCapacity_loaded {b : Byte} {x : Table} (h : loadTableOf b = some x) :
    tableCapacity x = if x = .profile then 1024 else 48 := by
  unfold loadTableOf at h
  split at h <;> cases h <;> rfl

/-! ## Batches, the car record and the identity block -/

section
variable {s : State}

/-- A byte counts as itself below 256 (R211). -/
theorem countByte_eq {n : Nat} (h : n < 256) : countByte n = BitVec.ofNat 8 n := by
  simp [countByte, h, byteOf]

theorem putRecord_closed {image : List Byte} (h : s.nvc.batch.state = .none ∨ s.nvc.batch.state = .aborted) :
    putRecord image s = refuse (if s.nvc.batch.state = .none then .conditions else .aborted) s := by
  obtain h | h := h <;> simp [putRecord, h]

theorem putRecord_range {image : List Byte} (h : s.nvc.batch.state = .opened) (hp : s.nvc.batch.put image = none) :
    putRecord image s = refuse .range s := by
  simp [putRecord, h, hp]

theorem putRecord_count {image : List Byte} {b : Batch} (h : s.nvc.batch.state = .opened)
    (hp : s.nvc.batch.put image = some b) (hd : s.nvc.batch.declared ≤ s.nvc.batch.held) :
    putRecord image s = refuse .count (abortBatch s) := by
  simp [putRecord, h, hp, hd]

theorem putRecord_done {image : List Byte} {b : Batch} (h : s.nvc.batch.state = .opened)
    (hp : s.nvc.batch.put image = some b) (hd : s.nvc.batch.held < s.nvc.batch.declared) :
    putRecord image s = doneWith [countByte b.held] (onBatch (fun _ => b) s) := by
  simp [putRecord, h, hp, Nat.not_le.mpr hd]

/-- An image of a length that a frame may have reaches the owner of PUT_RECORD (R178, R205). -/
theorem exec_putRecord {image : List Byte} (h : imageLengthOk image = true) (s : State) : exec (.putRecord true image) s =
    request 0x52#8 false (depotGate true (putRecord image)) s := if_pos h

/-- What PUT_RECORD answers on an open batch, once the image is known to be one of the batch's table (R178). -/
theorem putRecord_exec {image : List Byte} {b : Batch} (hs : s.depotOpen) (hl : imageLengthOk image = true)
    (ho : s.nvc.batch.state = .opened) (hp : s.nvc.batch.put image = some b) (hb : b.held = s.nvc.batch.held + 1) :
    (s.nvc.batch.held < s.nvc.batch.declared → s.nvc.batch.held < 255 →
      ∃ t : State, exec (.putRecord true image) s = .next t ∧ Keeps [.port, .inp, .nvc, .transmitter] s t ∧
        Done t 0x52#8 [BitVec.ofNat 8 (s.nvc.batch.held + 1)] ∧ t.nvc.batch = b) ∧
    (s.nvc.batch.declared ≤ s.nvc.batch.held →
      ∃ t : State, exec (.putRecord true image) s = .next t ∧ Keeps [.port, .inp, .nvc, .transmitter] s t ∧
        Answered t 0x52#8 .refused .count [] ∧ t.nvc.batch = { s.nvc.batch with state := .aborted }) := by
  rw [exec_putRecord hl]
  refine ⟨fun hd h255 => ?_, fun hd => ?_⟩
  · have h := putRecord_done (s := s.inDepot) ho hp hd
    rw [hb, countByte_eq (by omega)] at h
    exact depot_batched hs _ h
  · exact depot_aborted hs _ (putRecord_count (s := s.inDepot) ho hp hd)

theorem commitBatch_closed (h : s.nvc.batch.state = .none ∨ s.nvc.batch.state = .aborted) :
    commitBatch s = refuse (if s.nvc.batch.state = .none then .conditions else .aborted) s := by
  obtain h | h := h <;> simp [commitBatch, h]

theorem commitBatch_count (h : s.nvc.batch.state = .opened) (hd : s.nvc.batch.held < s.nvc.batch.declared) :
    commitBatch s = refuse .count (abortBatch s) := by
  simp [commitBatch, h, hd]

theorem commitBatch_order (h : s.nvc.batch.state = .opened) (hd : s.nvc.batch.declared ≤ s.nvc.batch.held)
    (ho : s.batchOrdered = false) : commitBatch s = refuse .order (abortBatch s) := by
  simp [commitBatch, h, Nat.not_lt.mpr hd, ho]

theorem commitBatch_starts {x : Table} (h : s.nvc.batch.state = .opened) (hx : s.nvc.batch.table = some x)
    (hd : s.nvc.batch.declared ≤ s.nvc.batch.held) (ho : s.batchOrdered = true) :
    commitBatch s = starts (.commit x) (onBatch (fun b => { b with state := .programming }) s) := by
  simp [commitBatch, h, hx, Nat.not_lt.mpr hd, ho]

theorem batchReset_none (h : s.nvc.batch.state = .none) : batchReset s = doneWith [] s := by
  simp [batchReset, h]

theorem batchReset_held (h : s.nvc.batch.state = .opened ∨ s.nvc.batch.state = .aborted) :
    batchReset s = doneWith [] (onBatch (fun _ => Batch.reset) s) := by
  obtain h | h := h <;> simp [batchReset, h]

theorem writeCarRecord_locked {m : Half} {image : List Byte} (h : s.nv.carT.lock = true) :
    writeCarRecord m image s = refuse .locked s := by
  simp [writeCarRecord, h]

theorem writeCarRecord_range {m : Half} {image : List Byte} (h : s.nv.carT.lock = false) (hp : parseConfig m image = none) :
    writeCarRecord m image s = refuse .range s := by
  simp [writeCarRecord, h, hp]

theorem writeCarRecord_starts {m : Half} {image : List Byte} {c : CarConfig} (h : s.nv.carT.lock = false)
    (hp : parseConfig m image = some c) : writeCarRecord m image s = starts (.writeCar c) s := by
  simp [writeCarRecord, h, hp]

/-- An image of 66 bytes reaches the owner of WRITE_CAR_RECORD (R184, R205). -/
theorem exec_writeCarRecord {m : Half} {image : List Byte} (h : image.length = 66) (s : State) : exec (.writeCarRecord true m image) s =
    request 0x56#8 false (depotGate true (writeCarRecord m image)) s := if_pos h

theorem programIdentity_locked {serial cls : Nat} (h : s.nv.idLock = true) :
    programIdentity serial cls s = refuse .locked s := by
  simp [programIdentity, h]

theorem programIdentity_range {serial cls : Nat} (h : s.nv.idLock = false) (hc : 255 < cls) :
    programIdentity serial cls s = refuse .range s := by
  simp [programIdentity, h, hc]

theorem programIdentity_starts {serial cls : Nat} (h : s.nv.idLock = false) (hc : cls ≤ 255) :
    programIdentity serial cls s = starts (.programIdentity { serial := serial, cls := cls }) s := by
  simp [programIdentity, h, Nat.not_lt.mpr hc]

end

/-! ## Requests on a table -/

section
variable {s : State} {b : Byte} {x : Table}

/-- A request on a table that starts an operation marking it (R174). -/
theorem depot_table_starts {op : NvOp} {o : Option Table} {owner : Table → State → Owned} (hs : s.depotOpen) (hx : o = some x)
    (code : Byte) (ho : owner x s.inDepot = starts op s.inDepot) (hm : op.marks = true) :
    ∃ t : State, request code false (depotGate true (onTable o owner)) s = .next t ∧ Done t code [] ∧
      t.nvc.op = some { op := op, limit := op.limit s.nvc.batch.declared, elapsed := 0 } ∧ t.nv.records = s.nv.records ∧
      ((s.nv.info op.table).state = .closed → t.lrs.emptiedBy op.table) ∧
      t.nv.info op.table =
        { state := .incomplete, check := none, lock := (s.nv.info op.table).lock, unwritten := none } := by
  obtain ⟨t, ht, hd, hn, h⟩ := depot_starts_marked hs code ((onTable_some hx owner _).trans ho) (Keeps.refl _ _) hm
  exact ⟨t, ht, hd, congrArg Nvc.op hn, h⟩

/-- A request on a table that is refused with nothing changed (R173). -/
theorem depot_table_refused {o : Option Table} {owner : Table → State → Owned} {why : Reason} (hs : s.depotOpen) (hx : o = some x)
    (code : Byte) (ho : owner x s.inDepot = refuse why s.inDepot) (hw : why ≠ .busy := by decide) :
    ∃ t : State, request code false (depotGate true (onTable o owner)) s = .next t ∧
      Keeps [.port, .inp, .transmitter] s t ∧ Answered t code .refused why [] :=
  depot_refused hs code ((onTable_some hx owner _).trans ho) hw

end

end Sys2Proof.Machine

/-! Proof that the depot requests start their work or are refused. -/

namespace Sys2Proof.Machine

/-- The batch with an image of its table at its end holds one more (R178). -/
theorem put_segment {b : Batch} {image : List Byte} {g : Segment} (ht : b.table = some .profile)
    (hp : parseSegment image = some g) : b.put image = some { b with segments := b.segments ++ [g] } := by
  simp [Batch.put, ht, hp]

theorem put_stop {b : Batch} {image : List Byte} {p : StopRec} (ht : b.table = some .stops)
    (hp : parseStop image = some p) : b.put image = some { b with stops := b.stops ++ [p] } := by
  simp [Batch.put, ht, hp]

theorem put_none {b : Batch} {image : List Byte} (h : b.table = some .profile ∧ parseSegment image = none ∨
    b.table = some .stops ∧ parseStop image = none) : b.put image = none := by
  obtain ⟨ht, hp⟩ | ⟨ht, hp⟩ := h <;> simp [Batch.put, ht, hp]

theorem held_profile {b : Batch} (h : b.table = some .profile) : b.held = b.segments.length := by simp [Batch.held, h]

theorem held_stops {b : Batch} (h : b.table = some .stops) : b.held = b.stops.length := by simp [Batch.held, h]

theorem imageLengthOk_fifteen {image : List Byte} (h : image.length = 15) : imageLengthOk image = true := by
  simp [imageLengthOk, h]

/-- Settles O59, request by request: what starts, then batches, then the refusals. -/
theorem depotRequestsStartTheirWork : Obligations.DepotRequestsStartTheirWork := by
  refine ⟨fun s b x hs hx => ⟨fun hb => ⟨fun hl => ?erase, fun hl => ?unlock⟩, fun hl => ?eraseLocked, fun hl hc => ?lock,
      fun hl => ?lockAgain⟩,
    fun s b n x hs hx hst => ⟨fun hb h1 h2 hf => ?openB, fun hb => ⟨fun p e hxs => ?closeStops, fun e hxp hok => ?closeProfile,
      fun e hxp hok => ?badStructure⟩⟩,
    fun s hs ho => ⟨fun image g hlen ht hp => ?putSegment, fun image p hlen ht hp => ?putStop,
      fun x hx hd => ⟨fun hord => ?commit, fun hord => ?commitOrder⟩, fun hd => ?commitCount⟩,
    fun s hs => ⟨fun b hb => ?noTable, fun b x hx => ⟨fun hl hb ht => ?eraseBatch, fun h => ?unlockCond, fun hl hc => ?lockCond⟩,
      fun b n p e hb => ?noLoadTable, fun b n x hx => ⟨fun hn => ?openRange, fun h1 h2 => ?openRefused⟩,
      fun b p e x hx => ⟨fun h => ?closeCond, fun hb hst hxp hp => ?closeRange⟩, fun h why hwhy => ?noBatch,
      fun ho image hlen h => ?putRange, fun m image hlen hl hp => ?carRange, fun serial cls hl hc => ?idRange,
      fun hb => ?resetNone⟩,
    fun s hs => ⟨fun hb => ?reset, fun m image c hlen hp hl => ?writeCar, fun m image hlen hl => ?carLocked,
      fun serial cls => ⟨fun hl hc => ?identity, fun hl => ?idLocked⟩⟩⟩
  case erase =>
    obtain ⟨t, ht, hd, hop, hrec, hem, hinfo⟩ := depot_table_starts hs hx 0x50#8
      (eraseTable_starts (s := s.inDepot) hl (batchNames_eq_false hb)) rfl
    exact ⟨t, ht, hd, hop, hrec, hem, hl ▸ hinfo⟩
  case unlock =>
    obtain ⟨t, ht, hd, hop, hrec, hem, hinfo⟩ := depot_table_starts hs hx 0x59#8
      (unlockTable_starts (s := s.inDepot) hl (batchNames_eq_false hb)) rfl
    exact ⟨t, ht, hd, hop, hrec, hem, hl ▸ hinfo⟩
  case eraseLocked => exact depot_table_refused hs hx _ (eraseTable_locked (s := s.inDepot) hl)
  case lock =>
    obtain ⟨t, ht, hd, hn, hnv, -⟩ := depot_starts hs 0x58#8
      ((onTable_some hx lockTable _).trans (lockTable_starts (s := s.inDepot) hl hc)) (Keeps.refl _ _)
    exact ⟨t, ht, hd, congrArg Nvc.op hn, hnv⟩
  case lockAgain => exact depot_reports hs _ ((onTable_some hx lockTable _).trans (lockTable_locked (s := s.inDepot) hl))
  case openB =>
    exact depot_batched hs _ ((onTable_some hx (openBatch n.toNat) _).trans (openBatch_done (s := s.inDepot) (by omega) hb
      ((loadable_iff _).mpr hst) (tableCapacity_loaded hx ▸ hf)))
  case closeStops =>
    subst hxs
    obtain ⟨t, ht, hd, hop, hrec, -, hinfo⟩ := depot_table_starts hs hx 0x55#8
      (closeTable_stops (s := s.inDepot) (p := p) (e := e.toNat) (batchNames_eq_false hb) ((loadable_iff _).mpr hst)) rfl
    exact ⟨t, ht, hd, hop, congrArg TableInfo.state hinfo, congrArg TableInfo.check hinfo, hrec⟩
  case closeProfile =>
    subst hxp
    obtain ⟨t, ht, hd, hop, hrec, -, hinfo⟩ := depot_table_starts hs hx 0x55#8
      ((closeTable_profile (s := s.inDepot) (batchNames_eq_false hb) ((loadable_iff _).mpr hst)).trans (if_pos hok)) rfl
    exact ⟨t, ht, hd, hop, congrArg TableInfo.state hinfo, congrArg TableInfo.check hinfo, hrec⟩
  case badStructure =>
    subst hxp
    exact depot_table_refused hs hx _ ((closeTable_profile (s := s.inDepot) (batchNames_eq_false hb)
      ((loadable_iff _).mpr hst)).trans (if_neg (Bool.not_eq_true _ ▸ hok)))
  case putSegment =>
    have h := putRecord_exec hs (imageLengthOk_fifteen hlen) ho (put_segment ht hp)
      (by simp [Batch.held, ht])
    rwa [held_profile ht] at h
  case putStop =>
    have h := putRecord_exec hs hlen ho (put_stop ht hp) (by simp [Batch.held, ht])
    rwa [held_stops ht] at h
  case commit =>
    obtain ⟨t, ht, hd, hn, hrec, -, hinfo⟩ := depot_starts_marked hs 0x53#8
      (commitBatch_starts (s := s.inDepot) ho hx hd hord) (onBatch_keeps _ _) rfl
    exact ⟨t, ht, hd, congrArg Nvc.op hn, congrArg Nvc.batch hn, congrArg TableInfo.state hinfo,
      congrArg TableInfo.check hinfo, hrec⟩
  case commitOrder => exact depot_aborted hs _ (commitBatch_order (s := s.inDepot) ho hd hord)
  case commitCount => exact depot_aborted hs _ (commitBatch_count (s := s.inDepot) ho hd)
  case noTable => exact ⟨depot_refused hs _ (onTable_none hb _ _), depot_refused hs _ (onTable_none hb _ _),
    depot_refused hs _ (onTable_none hb _ _)⟩
  case eraseBatch =>
    exact depot_table_refused hs hx _ (eraseTable_conditions (s := s.inDepot) hl (batchNames_eq_true ⟨hb, ht⟩))
  case unlockCond =>
    exact depot_table_refused hs hx _ (unlockTable_conditions (s := s.inDepot) (h.imp_right batchNames_eq_true))
  case lockCond => exact depot_table_refused hs hx _ (lockTable_conditions (s := s.inDepot) hl hc)
  case noLoadTable => exact ⟨depot_refused hs _ (onTable_none hb _ _), depot_refused hs _ (onTable_none hb _ _)⟩
  case openRange =>
    exact depot_table_refused hs hx _ (openBatch_range (hn.imp_left (fun h => by simp [h])))
  case openRefused =>
    have hn : ¬(n.toNat = 0 ∨ 32 < n.toNat) := by omega
    refine ⟨fun hb => ?_, fun hb => ?_, fun hb => ⟨fun hst => ?_, fun hst hf => ?_⟩⟩
    · exact depot_table_refused hs hx _ (openBatch_aborted (s := s.inDepot) hn hb)
    · exact depot_table_refused hs hx _ (openBatch_opened (s := s.inDepot) hn hb)
    · exact depot_table_refused hs hx _ (openBatch_conditions (s := s.inDepot) hn hb (loadable_eq_false hst))
    · exact depot_table_refused hs hx _ (openBatch_full (s := s.inDepot) hn hb (loadable_of_mem hst)
        (tableCapacity_loaded hx ▸ hf))
  case closeCond =>
    exact depot_table_refused hs hx _ (closeTable_conditions (s := s.inDepot)
      (h.imp batchNames_eq_true loadable_eq_false))
  case closeRange =>
    subst hxp
    exact depot_table_refused hs hx _ (closeTable_noEnd (s := s.inDepot) (batchNames_eq_false hb) (loadable_of_mem hst) hp)
  case noBatch =>
    subst hwhy
    have hw : (if s.nvc.batch.state = .none then Reason.conditions else .aborted) ≠ .busy := by split <;> decide
    refine ⟨depot_refused hs _ (commitBatch_closed (s := s.inDepot) h) hw, fun image hlen => ?_⟩
    rw [RefusedInDepot, exec_putRecord hlen]
    exact depot_refused hs _ (putRecord_closed (s := s.inDepot) h) hw
  case putRange =>
    rw [RefusedInDepot, exec_putRecord hlen]
    exact depot_refused hs _ (putRecord_range (s := s.inDepot) ho (put_none h))
  case carRange =>
    rw [RefusedInDepot, exec_writeCarRecord hlen]
    exact depot_refused hs _ (writeCarRecord_range (s := s.inDepot) hl hp)
  case idRange => exact depot_refused hs _ (programIdentity_range (s := s.inDepot) hl hc)
  case resetNone => exact depot_reports hs _ (batchReset_none (s := s.inDepot) hb)
  case reset => exact depot_batched hs _ (batchReset_held (s := s.inDepot) hb)
  case writeCar =>
    rw [exec_writeCarRecord hlen]
    obtain ⟨t, ht, hd, hn, hrec, -, hinfo⟩ := depot_starts_marked hs 0x56#8
      (writeCarRecord_starts (s := s.inDepot) hl hp) (Keeps.refl _ _) rfl
    exact ⟨t, ht, hd, congrArg Nvc.op hn, congrArg TableInfo.state hinfo, congrArg TableInfo.check hinfo,
      (congrArg TableInfo.lock hinfo).trans hl, hrec⟩
  case carLocked =>
    rw [exec_writeCarRecord hlen]
    exact depot_refused hs _ (writeCarRecord_locked (s := s.inDepot) hl)
  case identity =>
    obtain ⟨t, ht, hd, hn, hnv, -⟩ := depot_starts hs 0x57#8
      (programIdentity_starts (s := s.inDepot) (serial := serial.toNat) hl hc) (Keeps.refl _ _)
    exact ⟨t, ht, hd, hnv, congrArg Nvc.op hn⟩
  case idLocked => exact depot_refused hs _ (programIdentity_locked (s := s.inDepot) hl)

end Sys2Proof.Machine

/-! SUPPORT. What a good frame heard by the car leaves of the VRU, and how a frame processed is answered (R155 to R161). -/

namespace Sys2Proof.Machine

/-! ## The transmitter of the VRU -/

/-- What the UART sends, and the transmit sequence that the next frame takes (R160). -/
def Vru.onAir (v : Vru) : Option (List Byte) × Byte := (v.sending, v.txSeq)

theorem queueReport_onAir (o : Occasion) (ps : Option Byte) (v : Vru) : (v.queueReport o ps).onAir = v.onAir := by
  unfold Vru.queueReport
  repeat' split
  all_goals rfl

theorem startBurst_onAir (v : Vru) : v.startBurst.onAir = v.onAir := by
  unfold Vru.startBurst
  split
  · exact queueReport_onAir _ _ v
  · rfl

theorem linkTo_up_onAir (v : Vru) : (v.linkTo .up).onAir = v.onAir := by
  simp only [Vru.linkTo]
  split
  · exact queueReport_onAir _ _ { v with link := .up }
  · rfl

/-- Waiting frames join or leave no transmission (R161). -/
theorem onAir_stable (a : Option (List Byte) × Byte) : TripStable (fun s => s.vru.onAir = a) where
  bcu _ _ h := h
  latch _ _ _ h := h
  refresh _ h := h
  relock _ h := h
  zero _ h := h
  ssu _ _ h := h
  latchTrip _ _ _ h := h
  withdraw _ _ h := h
  burst s h := (startBurst_onAir s.vru).trans h

/-! ## The trip burst of a recomputation (R92, R164) -/

theorem enterTrip_vru (c : TripCause) (s : State) : (enterTrip c s).vru = s.vru.startBurst := by
  have h : Keeps (.ssu :: evalBlocks) s (withdrawBoth (bcuEval ((abortTest .abortTrip (latch .trip (s.onSsu (fun u =>
      { u with state := .trip, trip := some (s.newTrip c) })))).onBcu (fun b => { b with driveReq := false })))) :=
    .after (withdrawBoth_keeps _) (.after (bcuEval_keeps _) (.after (onBcu_keeps _ _) (.after (abortTest_keeps _ _)
      (.after (latch_keeps _ _) ((onSsu_keeps _ s).mono)))))
  exact congrArg Vru.startBurst h.vru

/-- A move of the supervision state with no trip cause is to a state other than TRIP (R90). -/
theorem supNext_none {held st : SupState} {v p w i : Nat} {r : Bool} (h : supNext held v p w i r = (st, none)) :
    st ≠ .trip := by
  unfold supNext at h
  split at h
  · cases h
  · split at h
    · cases h
    · injection h with h _; exact h ▸ (by decide)
  · injection h with h _; exact h ▸ (by decide)
  · injection h with h _; exact h ▸ (by decide)

/-- A recomputation starts a trip burst exactly where it enters TRIP, and leaves the VRU alone elsewhere (R92, R164). -/
theorem recompute_vru (s : State) : (recompute s).vru =
    if s.ssu.state ≠ .trip ∧ (recompute s).ssu.state = .trip then s.vru.startBurst else s.vru := by
  by_cases ht : s.ssu.state = .trip
  · have hk : Keeps (.ssu :: evalBlocks) s (recompute s) := by
      have hc : Keeps (.ssu :: evalBlocks) s (addTripCauses (computeSpeed s)) :=
        .after (addTripCauses_keeps _) ((computeSpeed_keeps s).mono)
      rw [recompute, superviseSpeed, if_pos (show (computeSpeed s).ssu.state = .trip from ht)]
      exact Keeps.ite hc (.after (bcuEval_keeps _) hc)
    rw [hk.vru, if_neg (fun h => h.1 ht)]
  · have hstate : (computeSpeed s).ssu.state ≠ .trip := ht
    rw [recompute, superviseSpeed, if_neg hstate]
    split
    · rw [enterTrip_vru, enterTrip_ssu, if_pos ⟨ht, rfl⟩]
      rfl
    · next st hnext =>
      have hne := supNext_none hnext
      split
      · rw [if_neg (fun h => hstate h.2)]
        rfl
      · rw [(bcuEval_keeps _).vru, (bcuEval_keeps _).ssu, setSupState_ssu, if_neg (fun h => hne h.2),
          (setSupState_keeps _ _).vru]
        rfl

/-! ## A good frame heard (R156, R165, R167) -/

/-- The VRU at the end of a good frame: no silence, no frame in progress. -/
def Vru.attend (v : Vru) : Vru := { v with silence := 0, rx := [] }

/-- What hearing a frame does: nothing more where the link is UP, else a change of link and a recomputation. -/
theorem heard_eq (s : State) : heard s =
    if s.vru.link = .up then s.onVru Vru.attend else recompute (latch .linkChange (s.onVru (fun v => v.attend.linkTo .up))) := by
  unfold heard changeLink
  by_cases h : s.vru.link = .up
  · simp only [State.onVru_vru, h, if_true]; rfl
  · simp only [State.onVru_vru, h, if_false]; rfl

/-- A frame that makes the link UP cuts no chain back (R71, R167). -/
theorem heard_keeps_chain (s : State) : Keeps (.radio :: tripBlocks) s (heard s) := by
  rw [heard_eq]
  exact Keeps.ite ((onVru_keeps _ s).mono) (.after (recompute_keeps _) (.after (latch_keeps _ _) ((onVru_keeps _ s).mono)))

/-- The VRU once a frame has been heard: the link UP, and a trip burst begun where TRIP was entered (R156, R164, R167). -/
theorem heard_vru (s : State) : (heard s).vru =
    if s.ssu.state ≠ .trip ∧ (heard s).ssu.state = .trip then (s.vru.attend.linkTo .up).startBurst
    else s.vru.attend.linkTo .up := by
  rw [heard_eq]
  by_cases h : s.vru.link = .up
  · have hv : s.vru.attend.linkTo .up = s.vru.attend := by
      have : s.vru.attend.link = .up := h
      simp [Vru.linkTo, this]
      rw [← this]
    rw [if_pos h, if_neg (fun k => k.1 k.2), hv]
    rfl
  · rw [if_neg h, recompute_vru]
    rfl

theorem linkTo_up_lessTransmitter (v : Vru) : (v.linkTo .up).lessTransmitter = { v.lessTransmitter with link := .up } := by
  simp only [Vru.linkTo]
  split
  · exact queueReport_startReport_lessTransmitter _ _ { v with link := .up }
  · rfl

/-- Beside the transmitter a frame heard changes the link, the silence and the frame in progress alone. -/
theorem heard_lessTransmitter (s : State) :
    (heard s).vru.lessTransmitter = { s.vru.lessTransmitter with link := .up, silence := 0, rx := [] } := by
  rw [heard_vru]
  split
  · rw [startBurst_lessTransmitter, linkTo_up_lessTransmitter]; rfl
  · rw [linkTo_up_lessTransmitter]; rfl

theorem heard_onAir (s : State) : (heard s).vru.onAir = s.vru.onAir := by
  rw [heard_vru]
  split
  · rw [startBurst_onAir, linkTo_up_onAir]; rfl
  · rw [linkTo_up_onAir]; rfl

theorem heard_lastTaken (s : State) : (heard s).vru.lastTaken = s.vru.lastTaken :=
  (congrArg Vru.lastTaken (heard_lessTransmitter s) :)

theorem heard_latched (s : State) : (heard s).vru.latched = s.vru.latched := (congrArg Vru.latched (heard_lessTransmitter s) :)

theorem heard_owed (s : State) : (heard s).vru.owed = s.vru.owed := (congrArg Vru.owed (heard_lessTransmitter s) :)

theorem heard_silence (s : State) : (heard s).vru.silence = 0 := (congrArg Vru.silence (heard_lessTransmitter s) :)

/-- A property that a recomputation preserves, and the change of link with its cause, is preserved by a frame heard. -/
theorem TripStable.heard {P : State → Prop} (h : TripStable P) {s : State} (hv : ∀ (f : Vru → Vru) (u : State), P u → P (u.onVru f))
    (hl : ∀ u : State, P u → P (Machine.latch .linkChange u)) (hs : P s) : P (heard s) := by
  rw [heard_eq]
  split
  · exact hv _ _ hs
  · exact h.recompute (hl _ (hv _ _ hs))

/-! ## Sorting a frame (R155, R158) -/

theorem listens_of {s : State} (h : s.listening) : s.vru.listens = true := by
  simp [Vru.listens, h.1, h.2]

theorem sort_zero (v : Vru) : v.sort 0#8 = .broadcast := rfl

theorem sort_directed {s : State} {addr : Byte} (h : s.directed addr) : s.vru.sort addr = .directed := by
  simp [Vru.sort, h.2.1, h.2.2]

theorem duplicate_new {s : State} {seq : Byte} (h : s.newSequence seq) : (heard s).vru.duplicate seq = none := by
  rw [Vru.duplicate, heard_lastTaken]
  cases hl : s.vru.lastTaken with
  | none => rfl
  | some r =>
    have : r.seq ≠ seq := fun k => h (by rw [hl, Option.map_some, k])
    simp [this]

/-! ## The ANSWER of a frame processed (R157, R160, R161) -/

theorem pushFrame_eq (f : CarFrame) (q : List CarFrame) : ∃ q' : List CarFrame, pushFrame f q = q' ++ [f] := by
  unfold pushFrame
  split <;> exact ⟨_, rfl⟩

/-- After an ANSWER is queued it waits last, or an idle transmitter with nothing else to send sends it (R160, R161). -/
theorem queueAnswer_kicked {u : State} {r : LastTaken} {a : Nat} (hq : ∃ q, u.vru.queue = q ++ [.answer r])
    (ha : u.vru.latched = some a) :
    (u.vru.sending ≠ none → (kickTransmit u).vru.queue.getLast? = some (.answer r)) ∧ (kickTransmit u).vru.sending ≠ none ∧
      ((kickTransmit u).vru.queue.getLast? = some (.answer r) ∨ (kickTransmit u).vru.queue = [] ∧
        (kickTransmit u).vru.sending = some (radioFrame (byteOf a) 0x81#8 u.vru.txSeq (answerBody r))) := by
  obtain ⟨q, hq⟩ := hq
  cases hs : u.vru.sending with
  | some bytes =>
    rw [kickTransmit_sending (by simp [hs]), hs, hq]
    simp
  | none =>
    cases q with
    | nil =>
      obtain ⟨h1, h2, -⟩ := kickTransmit_begins (rest := []) hs hq ha
      rw [h1, h2]
      exact ⟨fun h => absurd rfl h, by simp, .inr ⟨rfl, rfl⟩⟩
    | cons f rest =>
      obtain ⟨h1, h2, -⟩ := kickTransmit_begins (f := f) (rest := rest ++ [CarFrame.answer r]) hs hq ha
      rw [h1, h2]
      exact ⟨fun h => absurd rfl h, by simp, .inl (by simp)⟩

theorem answered_vru {d : Decided} {a : Nat} (h : d.state.vru.latched = some a) (seq : Byte) (kind : ValleyKind) :
    (answered seq kind d).vru = { d.state.vru with
      lastTaken := some { seq := seq, kind := kind, outcome := d.outcome, slot := d.slot },
      queue := pushFrame (.answer { seq := seq, kind := kind, outcome := d.outcome, slot := d.slot }) d.state.vru.queue } := by
  simp [answered, Vru.queueAnswer, h]

/-- A frame decided by its owner, with what the VRU sends unchanged since it came, is processed (R157, R158, R160). -/
theorem answered_processed {s : State} {d : Decided} {a : Nat} (hair : d.state.vru.onAir = s.vru.onAir)
    (hlink : d.state.vru.link = .up) (hsil : d.state.vru.silence = 0) (hlat : d.state.vru.latched = some a)
    (hs : s.vru.latched = some a) (seq : Byte) (kind : ValleyKind) :
    Processed s (kickTransmit (answered seq kind d)) seq kind d.outcome d.slot := by
  obtain ⟨hsend, hseq⟩ : d.state.vru.sending = s.vru.sending ∧ d.state.vru.txSeq = s.vru.txSeq := Prod.mk.inj hair
  have hv := answered_vru hlat seq kind
  obtain ⟨klink, ksil, -, klast, -⟩ := kickTransmit_link (answered seq kind d)
  obtain ⟨q, hq⟩ := pushFrame_eq (.answer { seq := seq, kind := kind, outcome := d.outcome, slot := d.slot }) d.state.vru.queue
  obtain ⟨hwait, hsent, hend⟩ := queueAnswer_kicked (u := answered seq kind d) ⟨q, by rw [hv]; exact hq⟩ (by rw [hv]; exact hlat)
  rw [hv] at klink ksil klast hwait hend
  dsimp only at hwait hend
  rw [hsend] at hwait
  rw [hseq] at hend
  exact ⟨klink.trans hlink, ksil.trans hsil, klast, hwait, hsent, hend.imp_right (fun ⟨h1, h2⟩ => ⟨h1, a, hs, h2⟩)⟩

theorem valleyFrame_broadcast {s : State} (hl : s.listening) (seq : Byte) (kind : ValleyKind) (owner : State → Decided) :
    valleyFrame 0#8 seq kind true owner s = (owner (heard s)).state := by
  simp [valleyFrame, listens_of hl, sort_zero]

theorem valleyFrame_directed {s : State} {addr seq : Byte} (hd : s.directed addr) (hn : s.newSequence seq) (kind : ValleyKind)
    (fb : Bool) (owner : State → Decided) : valleyFrame addr seq kind fb owner s = answered seq kind (owner (heard s)) := by
  simp [valleyFrame, listens_of hd.1, sort_directed hd, duplicate_new hn]

/-- A new directed frame, and a broadcast one of a kind taken from a broadcast, reach their owner; a directed one is then processed
(R155 to R158, R160). -/
theorem valleyFrame_addressed {l : List Block} {owner : State → Decided} {addr seq : Byte} {kind : ValleyKind} {s : State}
    (ha : s.addressed addr) (hn : addr ≠ 0#8 → s.newSequence seq) (hk : Keeps l (heard s) (owner (heard s)).state)
    (hair : (owner (heard s)).state.vru.onAir = (heard s).vru.onAir) (hl : Block.radio ∉ l := by decide) :
    ∃ t : State, finish (valleyFrame addr seq kind true owner s) = .next t ∧
      Keeps [.radio, .transmitter] (owner (heard s)).state t ∧
      (addr ≠ 0#8 → Processed s t seq kind (owner (heard s)).outcome (owner (heard s)).slot) := by
  obtain ⟨hlis, hadr⟩ := ha
  refine ⟨_, rfl, ?_, fun h0 => ?_⟩
  · refine .after (kickTransmit_keeps _) ?_
    by_cases h0 : addr = 0#8
    · subst h0
      rw [valleyFrame_broadcast hlis]
      exact Keeps.refl _ _
    · rw [valleyFrame_directed ⟨hlis, h0, hadr.resolve_left h0⟩ (hn h0)]
      exact onVru_keeps _ _
  · have hlat := hadr.resolve_left h0
    rw [valleyFrame_directed ⟨hlis, h0, hlat⟩ (hn h0)]
    obtain ⟨klink, ksil, -, -, -, klat⟩ := hk.link hl
    exact answered_processed (hair.trans (heard_onAir s)) (klink.trans (heard_link s)) (ksil.trans (heard_silence s))
      (klat.trans ((heard_latched s).trans hlat)) hlat seq kind

end Sys2Proof.Machine

/-! Proofs about STOP_CLOSE, STOP_OPEN and PROBE. -/

namespace Sys2Proof.Machine

/-! ## Leaves released at a stop that closes (R26, R138, R139) -/

/-- The leaf is LOCKED. -/
def Dcu.lockedAt (l : Leaf) (d : Dcu) : Prop := (d.leaf l).state = .locked

/-- The leaf is LOCKED, or still RELEASED of a side whose release stop is the number. -/
def Dcu.locksAt (l : Leaf) (n : Nat) (d : Dcu) : Prop :=
  d.lockedAt l ∨ (d.leaf l).state = .released ∧ (d.side (sideOfLeaf l)).stop = some n

theorem refresh_leaf (d : Dcu) (l : Leaf) : d.refresh.leaf l = d.leaf l := by cases l <;> rfl

theorem mapLeaves_leaf (f : LeafRec → LeafRec) (d : Dcu) (l : Leaf) : (d.mapLeaves f).leaf l = f (d.leaf l) := by
  cases l <;> rfl

/-- Withdrawing a side brings its own leaves what the side's mode says, and no other (R136). -/
theorem withdrawSide_leaf (x : Side) (lead : Nat) (d : Dcu) (l : Leaf) : (d.withdrawSide x lead).leaf l =
    if sideOfLeaf l = x then
      (match (d.side x).mode with
        | .crew => (d.leaf l).closeOut lead
        | .passenger => (d.leaf l).withdraw lead)
    else d.leaf l := by
  unfold Dcu.withdrawSide
  cases l <;> cases x <;> cases (d.side _).mode <;> rfl

/-- A relocked leaf, RELEASED or LOCKED before, is LOCKED (R136 to R139). -/
theorem relock_locked {l : LeafRec} (h : l.state = .locked ∨ l.state = .released) : l.relock.state = .locked := by
  obtain h | h := h <;> simp [LeafRec.relock, h, LeafRec.lockIt]

theorem closeOut_locked {l : LeafRec} (h : l.state = .locked ∨ l.state = .released) (lead : Nat) :
    (l.closeOut lead).state = .locked := by
  obtain h | h := h <;> simp [LeafRec.closeOut, h, LeafRec.lockIt]

theorem withdraw_locked {l : LeafRec} (h : l.state = .locked ∨ l.state = .released) (lead : Nat) :
    (l.withdraw lead).state = .locked := by
  obtain h | h := h <;> simp [LeafRec.withdraw, h, LeafRec.lockIt]

/-- Withdrawing a side leaves a leaf that is LOCKED or RELEASED LOCKED, or as it was. -/
theorem withdrawSide_leaf_cases {d : Dcu} {l : Leaf} (h : (d.leaf l).state = .locked ∨ (d.leaf l).state = .released) (x : Side)
    (lead : Nat) : (d.withdrawSide x lead).lockedAt l ∨
      sideOfLeaf l ≠ x ∧ (d.withdrawSide x lead).leaf l = d.leaf l := by
  unfold Dcu.lockedAt
  rw [withdrawSide_leaf]
  split
  · split
    · exact .inl (closeOut_locked h lead)
    · exact .inl (withdraw_locked h lead)
  · next hx => exact .inr ⟨hx, rfl⟩

/-- Withdrawing both sides leaves a LOCKED or RELEASED leaf LOCKED (R138). -/
theorem withdrawBoth_locked {d : Dcu} {l : Leaf} (h : (d.leaf l).state = .locked ∨ (d.leaf l).state = .released) (lead : Nat) :
    ((d.withdrawSide .a lead).withdrawSide .b lead).lockedAt l := by
  obtain ha | ⟨hx, ha⟩ := withdrawSide_leaf_cases h .a lead
  · obtain hb | ⟨-, hb⟩ := withdrawSide_leaf_cases (.inl ha) .b lead
    · exact hb
    · exact (congrArg LeafRec.state hb).trans ha
  · obtain hb | ⟨hy, -⟩ := withdrawSide_leaf_cases (ha ▸ h) .b lead
    · exact hb
    · cases hs : sideOfLeaf l
      · exact absurd hs hx
      · exact absurd hs hy

theorem Dcu.locksAt.state {l : Leaf} {n : Nat} {d : Dcu} (h : d.locksAt l n) :
    (d.leaf l).state = .locked ∨ (d.leaf l).state = .released := h.imp_right And.left

/-- The release stop of a side with a RELEASED leaf stands (R139). -/
theorem refresh_locksAt {l : Leaf} {n : Nat} {d : Dcu} (h : d.locksAt l n) : d.refresh.locksAt l n := by
  obtain h | ⟨hst, hstop⟩ := h
  · exact .inl ((congrArg LeafRec.state (refresh_leaf d l)).trans h)
  · refine .inr ⟨(congrArg LeafRec.state (refresh_leaf d l)).trans hst, ?_⟩
    cases l <;> simp_all [Dcu.leaf, Dcu.side, sideOfLeaf, Dcu.refresh, SideRec.refresh, LeafState.inCycle]

/-- A LOCKED leaf stays LOCKED through evaluations, withdrawals and recomputations. -/
theorem lockedAt_stable (l : Leaf) : TripStable (fun s => s.dcu.lockedAt l) where
  bcu _ _ h := h
  latch _ _ _ h := h
  refresh s h := (congrArg LeafRec.state (refresh_leaf s.dcu l)).trans h
  relock s h := (congrArg LeafRec.state (mapLeaves_leaf _ s.dcu l)).trans (relock_locked (.inl h))
  zero _ h := h
  ssu _ _ h := h
  latchTrip _ _ _ h := h
  withdraw lead _ h := withdrawBoth_locked (.inl h) lead
  burst _ h := h

/-- A leaf RELEASED at a stop keeps it until it is LOCKED, through evaluations, withdrawals and recomputations. -/
theorem locksAt_stable (l : Leaf) (n : Nat) : TripStable (fun s => s.dcu.locksAt l n) where
  bcu _ _ h := h
  latch _ _ _ h := h
  refresh _ h := refresh_locksAt h
  relock s h := .inl ((congrArg LeafRec.state (mapLeaves_leaf _ s.dcu l)).trans (relock_locked h.state))
  zero _ h := h
  ssu _ _ h := h
  latchTrip _ _ _ h := h
  withdraw lead _ h := .inl (withdrawBoth_locked h.state lead)
  burst _ h := h

/-- The closing of a stop relocks the leaves of the sides released there, and no other (R26, R139). -/
theorem closeStop_leaf (n : Nat) (d : Dcu) (l : Leaf) : (d.closeStop n).leaf l =
    if (d.side (sideOfLeaf l)).stop = some n then (d.leaf l).relock else d.leaf l := by
  by_cases ha : d.sideA.stop = some n <;> by_cases hb : d.sideB.stop = some n <;> cases l <;>
    simp [Dcu.closeStop, Dcu.mapSide, Dcu.leaf, Dcu.side, sideOfLeaf, ha, hb]

theorem closeStop_locked {l : Leaf} {n : Nat} {d : Dcu} (h : d.locksAt l n) : (d.closeStop n).lockedAt l := by
  unfold Dcu.lockedAt
  rw [closeStop_leaf]
  split
  · exact relock_locked h.state
  · next hstop => exact h.resolve_right (fun k => hstop k.2)

/-! ## The closure set (R25) -/

theorem hasStop_eq_true {s : State} {n : Nat} {p : StopRec} (hc : s.nv.stopsT.state = .closed) (hv : s.ctl.stopsV ≠ none)
    (hp : p ∈ s.nv.stops) (hn : p.number = n) : s.hasStop n = true := by
  have hv' : (s.ctl.verified .stops).isSome = true := Option.isSome_iff_ne_none.mpr hv
  have hany : s.nv.stops.any (fun q => q.number = n) = true := List.any_eq_true.mpr ⟨p, hp, by simpa using hn⟩
  simp [State.hasStop, hc, hv', hany]

theorem hasStop_eq_false {s : State} {n : Nat}
    (h : s.nv.stopsT.state ≠ .closed ∨ s.ctl.stopsV = none ∨ ∀ p ∈ s.nv.stops, p.number ≠ n) : s.hasStop n = false := by
  rw [← Bool.not_eq_true]
  intro k
  simp only [State.hasStop, Bool.and_eq_true, decide_eq_true_eq, List.any_eq_true] at k
  obtain ⟨⟨hc, hv⟩, p, hp, hn⟩ := k
  obtain h | h | h := h
  · exact h hc
  · exact absurd h (Option.isSome_iff_ne_none.mp hv)
  · exact h p hp hn

section
variable {s : State} {n : Nat}

theorem stopCloses_held (h : n ∈ s.lrs.closure) : stopCloses n s = granted s := by
  simp [stopCloses, h]

theorem stopCloses_unknown (h : n ∉ s.lrs.closure) (hs : s.hasStop n = false) : stopCloses n s = declined .unknownId s := by
  simp [stopCloses, h, hs]

theorem stopCloses_taken (h : n ∉ s.lrs.closure) (hs : s.hasStop n = true) : stopCloses n s =
    granted (doorsSettled ((closureChanged (s.lrs.closure ++ [n]) s).onDcu (Dcu.closeStop n))) := by
  simp [stopCloses, h, hs]

theorem stopOpens_taken (h : n ∈ s.lrs.closure) :
    stopOpens n s = granted (closureChanged (s.lrs.closure.filter (fun k => k ≠ n)) s) := by
  simp [stopOpens, h]

theorem stopOpens_notHeld (h : n ∉ s.lrs.closure) (hs : s.hasStop n = true) : stopOpens n s = granted s := by
  simp [stopOpens, h, hs]

theorem stopOpens_unknown (h : n ∉ s.lrs.closure) (hs : s.hasStop n = false) : stopOpens n s = declined .unknownId s := by
  simp [stopOpens, h, hs]

/-- A change of the closure set: the set, CLOSURE_CHANGE, and transmissions as they were (R25). -/
theorem closureChanged_spec (c : List Nat) (s : State) : (closureChanged c s).lrs = { s.lrs with closure := c } ∧
    (closureChanged c s).cmp.causes.getLsbD Cause.closureChange.num = true ∧ (closureChanged c s).vru.onAir = s.vru.onAir := by
  refine ⟨(recompute_keeps _).lrs, (cause_stable (by decide) true).recompute ?_, (onAir_stable _).recompute rfl⟩
  rw [latch_causes, BitVec.getLsbD_or, Cause.bit, BitVec.getLsbD_twoPow]
  simp [Cause.num]

theorem stopCloses_onAir (n : Nat) (s : State) : (stopCloses n s).state.vru.onAir = s.vru.onAir := by
  unfold stopCloses
  split
  · rfl
  · split
    · rfl
    · exact (onAir_stable _).doorsSettled (closureChanged_spec _ s).2.2

theorem stopOpens_onAir (n : Nat) (s : State) : (stopOpens n s).state.vru.onAir = s.vru.onAir := by
  unfold stopOpens
  split
  · exact (closureChanged_spec _ s).2.2
  · split <;> rfl

end

/-! ## What hearing the frame leaves to the owner -/

/-- CLOSURE_CHANGE stands as it was where a frame is heard (R208). -/
theorem heard_closureChange (s : State) :
    (heard s).cmp.causes.getLsbD Cause.closureChange.num = s.cmp.causes.getLsbD Cause.closureChange.num := by
  refine (cause_stable (by decide) _).heard (fun _ _ h => h) (fun u h => ?_) rfl
  rw [← h, latch_causes, BitVec.getLsbD_or, Cause.bit, BitVec.getLsbD_twoPow]
  simp [Cause.num]

theorem heard_hasStop (s : State) (n : Nat) : (heard s).hasStop n = s.hasStop n := by
  simp only [State.hasStop, (heard_keeps s).nv, (heard_keeps s).ctl]

/-- The STOP_CLOSE of a frame addressed to the car reaches the LRS. -/
theorem execStopClose_addressed {addr seq n : Byte} {s : State} (ha : s.addressed addr) (hn : addr ≠ 0#8 → s.newSequence seq) :
    ∃ t : State, exec (.stopClose addr seq n) s = .next t ∧
      Keeps [.radio, .transmitter] (stopCloses n.toNat (heard s)).state t ∧
      (addr ≠ 0#8 → Processed s t seq .stopClose (stopCloses n.toNat (heard s)).outcome
        (stopCloses n.toNat (heard s)).slot) :=
  valleyFrame_addressed ha hn (stopCloses_keeps _ _) (stopCloses_onAir _ _)

/-- The STOP_OPEN of a frame addressed to the car reaches the LRS. -/
theorem execStopOpen_addressed {addr seq n : Byte} {s : State} (ha : s.addressed addr) (hn : addr ≠ 0#8 → s.newSequence seq) :
    ∃ t : State, exec (.stopOpen addr seq n) s = .next t ∧
      Keeps [.radio, .transmitter] (stopOpens n.toNat (heard s)).state t ∧
      (addr ≠ 0#8 → Processed s t seq .stopOpen (stopOpens n.toNat (heard s)).outcome
        (stopOpens n.toNat (heard s)).slot) :=
  valleyFrame_addressed ha hn (stopOpens_keeps _ _) (stopOpens_onAir _ _)

/-- Where the owner changes nothing, the closure set and CLOSURE_CHANGE stand as before the frame. -/
theorem unchanged_after_heard {s t : State} (hk : Keeps [.radio, .transmitter] (heard s) t) :
    t.lrs = s.lrs ∧ t.cmp.causes.getLsbD 7 = s.cmp.causes.getLsbD 7 := by
  refine ⟨hk.lrs.trans (heard_keeps s).lrs, ?_⟩
  rw [hk.causes]
  exact heard_closureChange s

/-- A stop that joins the closure set: the set, CLOSURE_CHANGE, and the leaves RELEASED there LOCKED (R25, R26, R139). -/
theorem stopCloses_effect {s : State} {n : Nat} (h : n ∉ s.lrs.closure) (hs : s.hasStop n = true) :
    (stopCloses n (heard s)).outcome = .taken ∧ (stopCloses n (heard s)).slot = none ∧
      (stopCloses n (heard s)).state.lrs = { s.lrs with closure := s.lrs.closure ++ [n] } ∧
      (stopCloses n (heard s)).state.cmp.causes.getLsbD Cause.closureChange.num = true ∧
      ∀ l : Leaf, s.dcu.locksAt l n → (stopCloses n (heard s)).state.dcu.lockedAt l := by
  have hl : (heard s).lrs = s.lrs := (heard_keeps s).lrs
  rw [stopCloses_taken (hl ▸ h) ((heard_hasStop s n).trans hs)]
  obtain ⟨hset, hbit, -⟩ := closureChanged_spec ((heard s).lrs.closure ++ [n]) (heard s)
  refine ⟨rfl, rfl, ?_, (cause_stable (by decide) true).doorsSettled hbit, fun l hd => ?_⟩
  · exact (doorsSettled_keeps _).lrs.trans (hset.trans (by rw [hl]))
  · have hh : (heard s).dcu.locksAt l n := (locksAt_stable l n).heard (fun _ _ k => k) (fun _ k => k) hd
    have hc : (closureChanged ((heard s).lrs.closure ++ [n]) (heard s)).dcu.locksAt l n := (locksAt_stable l n).recompute hh
    exact (lockedAt_stable l).doorsSettled (closeStop_locked hc)

/-! ## PROBE (R159 to R162) -/

/-- A REPORT queued for a probe carries its sequence, in a REPORT that waited or as a new one (R161). -/
theorem queueReport_carries {v : Vru} (h : v.latched ≠ none) (o : Occasion) (p : Byte) :
    ∃ o' : Occasion, CarFrame.report o' (some p) ∈ (v.queueReport o (some p)).queue := by
  unfold Vru.queueReport
  rw [if_neg (by simpa using h)]
  split
  · next hany =>
    obtain ⟨f, hf, hrep⟩ := List.any_eq_true.mp hany
    cases f with
    | answer a => cases hrep
    | report o' q => exact ⟨o', List.mem_map.mpr ⟨_, hf, rfl⟩⟩
  · obtain ⟨q, hq⟩ := pushFrame_eq (.report o (some p)) v.queue
    exact ⟨o, by simp [hq]⟩

/-- On an empty queue the REPORT waits alone. -/
theorem queueReport_empty {v : Vru} (h : v.latched ≠ none) (hq : v.queue = []) (o : Occasion) (ps : Option Byte) :
    (v.queueReport o ps).queue = [.report o ps] := by
  simp [Vru.queueReport, h, hq, pushFrame]

/-- A REPORT that waits alone takes the probe's sequence, and keeps its own where the later one has none (R161). -/
theorem queueReport_waiting {v : Vru} {o' : Occasion} {q : Option Byte} (h : v.latched ≠ none) (hq : v.queue = [.report o' q])
    (o : Occasion) (ps : Option Byte) : (v.queueReport o ps).queue = [.report o' (if ps.isSome then ps else q)] := by
  simp [Vru.queueReport, h, hq, CarFrame.isReport, CarFrame.takeProbe]

theorem startBurst_queue {v : Vru} (h : v.xcvr = .on) : v.startBurst.queue = (v.queueReport .tripBurst none).queue := by
  simp [Vru.startBurst, h]

/-- A change of the link from NONE or LOST to UP queues its REPORT; from SILENT, and while UP, nothing (R163). -/
theorem linkTo_up_queue (v : Vru) : (v.linkTo .up).queue =
    if v.link = .none ∨ v.link = .lost then (v.queueReport .linkUp none).queue else v.queue := by
  simp only [Vru.linkTo, Bool.or_eq_true, decide_eq_true_eq]
  split
  · simp only [Vru.startReport, Vru.queueReport]
    repeat' split
    all_goals rfl
  · rfl

theorem linkTo_up_latched (v : Vru) : (v.linkTo .up).latched = v.latched :=
  (congrArg Vru.latched (linkTo_up_lessTransmitter v) :)

theorem linkTo_up_xcvr (v : Vru) : (v.linkTo .up).xcvr = v.xcvr := (congrArg Vru.xcvr (linkTo_up_lessTransmitter v) :)

/-- The occasion of the one REPORT that a directed PROBE leaves where none waited: that of the link made UP, of a trip found, or the
probe's own (R161, R164). -/
def State.probeOccasion (s t : State) : Occasion :=
  if s.vru.link = .none ∨ s.vru.link = .lost then .linkUp
  else if s.ssu.state ≠ .trip ∧ t.ssu.state = .trip then .tripBurst else .probe

/-- On an empty queue a frame heard and a REPORT for its probe leave one REPORT waiting (R161). -/
theorem heard_probe_queue {s : State} (hx : s.vru.xcvr = .on) (hl : s.vru.latched ≠ none) (hq : s.vru.queue = []) (p : Byte) :
    ((heard s).vru.queueReport .probe (some p)).queue = [.report (s.probeOccasion (heard s)) (some p)] := by
  have hlat : (heard s).vru.latched ≠ none := heard_latched s ▸ hl
  have hlat' : (s.vru.attend.linkTo .up).latched ≠ none := by
    rw [linkTo_up_latched]; exact hl
  have hx' : (s.vru.attend.linkTo .up).xcvr = .on := (linkTo_up_xcvr _).trans hx
  unfold State.probeOccasion
  by_cases hlink : s.vru.link = .none ∨ s.vru.link = .lost
  · have hup : (s.vru.attend.linkTo .up).queue = [.report .linkUp none] := by
      rw [linkTo_up_queue, if_pos (show s.vru.attend.link = .none ∨ s.vru.attend.link = .lost from hlink)]
      exact queueReport_empty (v := s.vru.attend) hl hq _ _
    have hh : (heard s).vru.queue = [.report .linkUp none] := by
      rw [heard_vru]
      split
      · rw [startBurst_queue hx', queueReport_waiting hlat' hup]; rfl
      · exact hup
    rw [queueReport_waiting hlat hh, if_pos hlink]
    rfl
  · have hup : (s.vru.attend.linkTo .up).queue = [] := by
      rw [linkTo_up_queue, if_neg (show ¬(s.vru.attend.link = .none ∨ s.vru.attend.link = .lost) from hlink)]
      exact hq
    rw [if_neg hlink]
    by_cases ht : s.ssu.state ≠ .trip ∧ (heard s).ssu.state = .trip
    · have hh : (heard s).vru.queue = [.report .tripBurst none] := by
        rw [heard_vru, if_pos ht, startBurst_queue hx', queueReport_empty hlat' hup]
      rw [queueReport_waiting hlat hh, if_pos ht]
      rfl
    · have hh : (heard s).vru.queue = [] := by rw [heard_vru, if_neg ht, hup]
      rw [queueReport_empty hlat hh, if_neg ht]

/-- The VRU takes the record of a PROBE and queues its REPORT (R159). -/
def Vru.takeProbe (r : Option LastTaken) (seq : Byte) (v : Vru) : Vru :=
  { v with lastTaken := r }.queueReport .probe (some seq)

theorem takeProbe_lessTransmitter (r : Option LastTaken) (seq : Byte) (v : Vru) :
    (v.takeProbe r seq).lessTransmitter = { v.lessTransmitter with lastTaken := r } :=
  queueReport_lessTransmitter _ _ { v with lastTaken := r }

theorem takeProbe_onAir (r : Option LastTaken) (seq : Byte) (v : Vru) : (v.takeProbe r seq).onAir = v.onAir :=
  queueReport_onAir _ _ { v with lastTaken := r }

theorem takeProbe_queue (r : Option LastTaken) (seq : Byte) (v : Vru) :
    (v.takeProbe r seq).queue = (v.queueReport .probe (some seq)).queue := by
  simp only [Vru.takeProbe, Vru.queueReport]
  repeat' split
  all_goals rfl

/-- The last taken record after a directed PROBE that is no duplicate: sequence 0 leaves it (R159). -/
def Vru.probed (seq : Byte) (v : Vru) : Option LastTaken :=
  if seq = 0#8 then v.lastTaken else some { seq := seq, kind := .probe, outcome := .taken, slot := none }

/-- A directed PROBE that is no duplicate, once heard (R158, R159). -/
theorem probeDirected_eq {s : State} {seq : Byte} (h : seq = 0#8 ∨ s.newSequence seq) :
    probeDirected seq (heard s) = (heard s).onVru (Vru.takeProbe (s.vru.probed seq) seq) := by
  unfold probeDirected Vru.probed
  by_cases h0 : seq = 0#8
  · rw [if_pos h0, if_pos h0, ← heard_lastTaken]
    rfl
  · rw [if_neg h0, if_neg h0, duplicate_new (h.resolve_left h0)]
    rfl

theorem execProbe_directed {addr seq : Byte} {s : State} (hd : s.directed addr) (h : seq = 0#8 ∨ s.newSequence seq) :
    exec (.probe addr seq) s = .next (kickTransmit ((heard s).onVru (Vru.takeProbe (s.vru.probed seq) seq))) := by
  rw [← probeDirected_eq h]
  change execProbe addr seq s = _
  simp [execProbe, finish, listens_of hd.1, sort_directed hd]

theorem execProbe_broadcast {s : State} (h : s.listening) (seq : Byte) :
    exec (.probe 0#8 seq) s = .next (kickTransmit ((heard s).onVru Vru.oweReport)) := by
  change execProbe 0#8 seq s = _
  simp [execProbe, finish, listens_of h, sort_zero]

/-- The body of a REPORT reads nothing that the begin of a transmission changes (R162). -/
theorem kickTransmit_reportBody (s : State) (o : Occasion) (ps : Option Byte) :
    (kickTransmit s).reportBody o ps = s.reportBody o ps := by
  unfold kickTransmit; split <;> rfl

/-- A waiting frame is sent, or another is (R161). -/
theorem kickTransmit_sends {s : State} {f : CarFrame} (hf : f ∈ s.vru.queue) (hl : s.vru.latched ≠ none) :
    (kickTransmit s).vru.sending ≠ none := by
  cases hs : s.vru.sending with
  | some bytes => simp [kickTransmit_sending, hs]
  | none =>
    obtain ⟨a, ha⟩ := Option.ne_none_iff_exists'.mp hl
    obtain ⟨g, rest, hq⟩ := List.exists_cons_of_ne_nil (List.ne_nil_of_mem hf)
    simp [(kickTransmit_begins hs hq ha).1]

/-- The report owed after a broadcast PROBE: one at a time, 40 ms for each address below (R159). -/
theorem oweReport_owed (v : Vru) : v.oweReport.owed =
    if v.owed = none then v.latched.map (fun a => 40 * a) else v.owed := by
  unfold Vru.oweReport
  split <;> simp_all

theorem oweReport_link (v : Vru) : v.oweReport.link = v.link ∧ v.oweReport.lastTaken = v.lastTaken := by
  unfold Vru.oweReport
  split <;> exact ⟨rfl, rfl⟩

theorem kickTransmit_owed (s : State) : (kickTransmit s).vru.owed = s.vru.owed := by
  unfold kickTransmit; split <;> rfl

/-- A directed PROBE is answered with a REPORT that carries its sequence (R159 to R162). -/
theorem probe_reports {addr seq : Byte} {s : State} (hd : s.directed addr) (hseq : seq = 0#8 ∨ s.newSequence seq) :
    ∃ t : State, exec (.probe addr seq) s = .next t ∧ t.vru.link = .up ∧ t.vru.silence = 0 ∧ t.aut = s.aut ∧
      t.lrs = s.lrs ∧ t.vru.sending ≠ none ∧ t.vru.lastTaken = s.vru.probed seq ∧
      (s.vru.sending ≠ none → ∃ o : Occasion, CarFrame.report o (some seq) ∈ t.vru.queue) ∧
      (s.vru.sending = none → s.vru.queue = [] → t.vru.queue = [] ∧ t.vru.txSeq = s.vru.txSeq + 1#8 ∧
        t.vru.sending = some (radioFrame addr 0x82#8 s.vru.txSeq (t.reportBody (s.probeOccasion t) (some seq)))) := by
  obtain ⟨hlis, -, hlat⟩ := id hd
  have hlat' : (heard s).vru.latched = some addr.toNat := (heard_latched s).trans hlat
  have hne : (heard s).vru.latched ≠ none := by simp [hlat']
  refine ⟨_, execProbe_directed hd hseq, ?_⟩
  generalize hu : (heard s).onVru (Vru.takeProbe (s.vru.probed seq) seq) = u
  have hless : u.vru.lessTransmitter = { (heard s).vru.lessTransmitter with lastTaken := s.vru.probed seq } := by
    rw [← hu]; exact takeProbe_lessTransmitter _ _ _
  have hlatu : u.vru.latched = some addr.toNat := (congrArg Vru.latched hless :).trans hlat'
  obtain ⟨hsend, hseqs⟩ : u.vru.sending = s.vru.sending ∧ u.vru.txSeq = s.vru.txSeq := by
    have h : u.vru.onAir = s.vru.onAir := by rw [← hu]; exact (takeProbe_onAir _ _ _).trans (heard_onAir s)
    exact Prod.mk.inj h
  have hqueue : u.vru.queue = ((heard s).vru.queueReport .probe (some seq)).queue := by rw [← hu]; exact takeProbe_queue _ _ _
  have hkeeps : Keeps (.radio :: tripBlocks) s (kickTransmit u) :=
    .after (kickTransmit_keeps u) (by rw [← hu]; exact .after (onVru_keeps _ _) (heard_keeps_chain s))
  obtain ⟨k1, k2, -, k4, -⟩ := kickTransmit_link u
  obtain ⟨o, ho⟩ := queueReport_carries hne .probe seq
  refine ⟨k1.trans ((congrArg Vru.link hless :).trans (heard_link s)),
    k2.trans ((congrArg Vru.silence hless :).trans (heard_silence s)), hkeeps.aut, hkeeps.lrs,
    kickTransmit_sends (hqueue ▸ ho) (by simp [hlatu]), k4.trans (congrArg Vru.lastTaken hless :), fun hs => ⟨o, ?_⟩, fun hs hq => ?_⟩
  · rw [kickTransmit_sending (hsend ▸ hs), hqueue]
    exact ho
  · have hssu : (kickTransmit u).ssu = (heard s).ssu := (kickTransmit_keeps u).ssu.trans (by rw [← hu]; rfl)
    have hocc : s.probeOccasion (kickTransmit u) = s.probeOccasion (heard s) := by rw [State.probeOccasion, hssu]; rfl
    obtain ⟨h1, h2, h3⟩ := kickTransmit_begins (hsend.trans hs)
      (hqueue.trans (heard_probe_queue hlis.1 (by simp [hlat]) hq seq)) hlatu
    refine ⟨h2, hseqs ▸ h3, ?_⟩
    rw [h1, kickTransmit_reportBody, hocc, State.carFrameBytes, hseqs, byteOf, BitVec.ofNat_toNat, BitVec.setWidth_eq]

/-- Settles O52: the closures by what the LRS decides on the frame heard, the PROBE by the REPORT it leaves. -/
theorem closuresAndProbes : Obligations.ClosuresAndProbes := by
  refine ⟨fun addr seq n s ha hn => ?_, fun addr seq s hd hseq => ?_, fun seq s hlis => ?_⟩
  · have hl : (heard s).lrs = s.lrs := (heard_keeps s).lrs
    obtain ⟨t, ht, hkt, hpt⟩ := execStopClose_addressed (n := n) ha hn
    obtain ⟨u, hu, hku, hpu⟩ := execStopOpen_addressed (n := n) ha hn
    refine ⟨fun hc hclosed hv p hp hnum => ⟨⟨t, ht, ?_⟩, u, hu, ?_⟩, fun hc => ⟨⟨t, ht, ?_⟩, u, hu, ?_⟩,
      fun hc h => ⟨⟨t, ht, ?_⟩, u, hu, ?_⟩⟩
    · obtain ⟨hout, hslot, hset, hbit, hleaf⟩ := stopCloses_effect hc (hasStop_eq_true hclosed hv hp hnum)
      rw [hout, hslot] at hpt
      refine ⟨hkt.lrs.trans hset, by rw [hkt.causes]; exact hbit, fun l h1 h2 => ?_, hpt⟩
      rw [hkt.dcu]
      exact hleaf l (.inr ⟨h1, h2⟩)
    · rw [stopOpens_notHeld (hl ▸ hc) ((heard_hasStop s _).trans (hasStop_eq_true hclosed hv hp hnum))] at hku hpu
      obtain ⟨h1, h2⟩ := unchanged_after_heard hku
      exact ⟨h1, h2, hpu⟩
    · rw [stopCloses_held (hl ▸ hc)] at hkt hpt
      obtain ⟨h1, h2⟩ := unchanged_after_heard hkt
      exact ⟨h1, h2, hpt⟩
    · rw [stopOpens_taken (hl ▸ hc)] at hku hpu
      obtain ⟨hset, hbit, -⟩ := closureChanged_spec ((heard s).lrs.closure.filter (fun k => k ≠ n.toNat)) (heard s)
      exact ⟨by rw [hku.causes]; exact hbit, hku.lrs.trans (hset.trans (by rw [hl])), hpu⟩
    · rw [stopCloses_unknown (hl ▸ hc) ((heard_hasStop s _).trans (hasStop_eq_false h))] at hkt hpt
      exact ⟨(unchanged_after_heard hkt).1, hpt⟩
    · rw [stopOpens_unknown (hl ▸ hc) ((heard_hasStop s _).trans (hasStop_eq_false h))] at hku hpu
      exact ⟨(unchanged_after_heard hku).1, hpu⟩
  · exact probe_reports hd hseq
  · obtain ⟨k1, -, -, k4, -⟩ := kickTransmit_link ((heard s).onVru Vru.oweReport)
    obtain ⟨hlink, hlast⟩ := oweReport_link (heard s).vru
    have howed : (kickTransmit ((heard s).onVru Vru.oweReport)).vru.owed =
        if s.vru.owed = none then s.vru.latched.map (fun a => 40 * a) else s.vru.owed := by
      rw [kickTransmit_owed, State.onVru_vru, oweReport_owed, heard_owed, heard_latched]
    refine ⟨_, execProbe_broadcast hlis seq, k1.trans (hlink.trans (heard_link s)), k4.trans (hlast.trans (heard_lastTaken s)),
      fun h => ?_, fun h => ?_⟩
    · rw [howed, if_neg h]
    · rw [howed, if_pos h]

end Sys2Proof.Machine
